-- ==== Sys2Proof/Word.lean ====
section
/-! DEFINITION. The unsigned word types of the spec (00_scope R11): `uN` is an N-bit unsigned number. -/

namespace Sys2Proof

/-- `u8`: one byte, bit 7 its most significant bit (R11). -/
abbrev Byte := BitVec 8

/-- `u16`: one infrared or ultrasonic reading (R9 `READING_BITS`). -/
abbrev U16 := BitVec 16

/-- `u32`: a timestamp, a clock answer, a counter, a timeout (R9, R10). -/
abbrev U32 := BitVec 32

/-- `u48`: the average latency, 32 integer and 16 fraction bits (R32). -/
abbrev U48 := BitVec 48

end Sys2Proof
end

