-- ==== Sys2Proof/Config.lean ====
section
/-! DEFINITION. The parameters of the block: what the source fixes (00_scope R9), what the spec leaves open
(R10, constants with no body), and the two free values. -/

namespace Sys2Proof.Config

/-- `HEADER_BYTE`, the first byte of every frame (R9). -/
def headerByte : Byte := 0xAA#8

/-- `FOOTER_BYTE`, the last byte of every frame (R9). -/
def footerByte : Byte := 0x55#8

/-- `CRC_POLY`: x^8 + x^2 + x + 1, the x^8 term implicit (R9). -/
def crcPoly : Byte := 0x07#8

/-- `CRC_INIT`: the accumulator before the first byte (R9). -/
def crcInit : Byte := 0x00#8

/-- `T_BODY_MS`, the budget of the body read: OPEN (R10, decision D5), so a constant without a value; DESIGN CHOICE: one for
all instances (log 5). -/
opaque tBodyMs : U32

/-- `T_TX_MS`, the budget of the transmit: OPEN (R10, decision D6), so a constant without a value; DESIGN CHOICE: one for
all instances (log 5). -/
opaque tTxMs : U32

/-- FREE VALUE: what the clock answers to the n-th `Now()` when the environment holds no answer for it
(R14 "a free input", U7; log 4). Nothing can be proved of it but its width, and that two
instances draw from the same function (log 4). -/
opaque freeNow : Nat → U32

/-- FREE VALUE: what a buffer holds after the n-th failed operation that leaves it dead (93_implementation_defined U10 "any
value", 10_state R36, R37; log 27). DESIGN CHOICE (log 27): every instance draws the contents of both its buffers from this one
function at its own count of dead buffers, so two instances with equal counts hold equal dead buffers, although instances
share nothing (60_exceptions R211). -/
opaque freeBuffer : Nat → Vector Byte 48

end Sys2Proof.Config
end

