-- ==== Sys2Proof/Machine/Crc.lean ====
section
/-! DEFINITION. The CRC engine (40_crc R100 to R103): pure functions, no state (10_state R38). -/

namespace Sys2Proof.Machine

/-- The bit step (R101): bit 7 is tested before the shift, the bit shifted out is lost. -/
def crcStep (a : Byte) : Byte :=
  if a.getLsbD 7 then (a <<< 1) ^^^ Config.crcPoly else a <<< 1

/-- The byte step (R102): the whole byte is XORed in, then exactly eight bit steps. -/
def byteStep (a b : Byte) : Byte :=
  crcStep (crcStep (crcStep (crcStep (crcStep (crcStep (crcStep (crcStep (a ^^^ b))))))))

/-- The CRC of a byte span (R103): a left fold from the initial value, first byte first, no final XOR. -/
def crc8 (s : List Byte) : Byte :=
  s.foldl byteStep Config.crcInit

end Sys2Proof.Machine
end

