-- ==== Sys2Proof/Syntax.lean ====
section
/-! DEFINITION. The operation set (00_scope R3, 30_encoding R76, R77), a record (10_state R22), the operand ports
(R77), and one constructor of `Instr` per row of spec/opcode_table.json. -/

namespace Sys2Proof

/-- A record (10_state R22): five fields in the order of the wire layout. -/
structure Record where
  /-- sixteen infrared readings, index = sensor channel -/
  ir : Vector U16 16
  /-- four ultrasonic readings, index = sensor channel -/
  us : Vector U16 4
  /-- milliseconds, set by the Sender at transmit time -/
  timestamp : U32
  /-- sequence number modulo 256 -/
  sequence : Byte
  /-- CRC of the 45 bytes before it -/
  crc : Byte
deriving DecidableEq, Repr

/-- The ten operations with their operands (R77), and the table's row `FRAME` (R70, R74). -/
inductive Instr where
  /-- `CRC8 span` (40_crc R104) -/
  | crc8 (span : List Byte)
  /-- `ENCODE ir us timestamp sequence` (41_codec R112) -/
  | encode (ir : Vector U16 16) (us : Vector U16 4) (timestamp : U32) (sequence : Byte)
  /-- `DECODE frame` (41_codec R114); exactly 48 bytes by its type (R116) -/
  | decode (frame : Vector Byte 48)
  /-- `CONFIGURE chv` (44_stats_config R176) -/
  | configure (chv : Bool)
  /-- `SEND ir us rdv` (42_sender R133) -/
  | send (ir : Vector U16 16) (us : Vector U16 4) (rdv : Bool)
  /-- `SET_CONSUMER en` (44_stats_config R178) -/
  | setConsumer (en : Bool)
  /-- `TRY_RECEIVE timeout_ms` (43_receiver R154) -/
  | tryReceive (timeoutMs : U32)
  /-- `POLL` (43_receiver R157) -/
  | poll
  /-- `GET_STATS` (44_stats_config R171) -/
  | getStats
  /-- `RESET_STATS` (44_stats_config R173) -/
  | resetStats
  /-- `FRAME`: the 48 bytes of a frame at the receive side of the link (30_encoding R70, R74, R86; log 6) -/
  | frame (contents : Record)
deriving DecidableEq, Repr

/-- The operand ports (R77). Operands do not travel in the command word (R75); an operation reads the ports of its
own operands and no other (log 8). -/
structure Ports where
  span : List Byte
  ir : Vector U16 16
  us : Vector U16 4
  timestamp : U32
  sequence : Byte
  frame : Vector Byte 48
  chv : Bool
  rdv : Bool
  en : Bool
  timeoutMs : U32
deriving DecidableEq, Repr

/-- All operand ports at zero: what a command word meets when nothing drives the ports. -/
def Ports.zero : Ports where
  span := []
  ir := Vector.replicate 16 0
  us := Vector.replicate 4 0
  timestamp := 0
  sequence := 0
  frame := Vector.replicate 48 0
  chv := false
  rdv := false
  en := false
  timeoutMs := 0

/-- What the outside presents in encoded form: a command word with the operand ports (R75, R77), or the 48 bytes of a
frame at the link (R70). The two arrive at different places, so no received byte is ever a command (20_memory R67). -/
inductive Presented where
  | command (cmd : Byte) (ports : Ports)
  | frame (bytes : Vector Byte 48)
deriving DecidableEq, Repr

end Sys2Proof
end

