-- ==== Sys2Proof/Machine/Operands.lean ====
section
/-! DEFINITION. Operand forms: byte order and field assembly (00_scope R13, 30_encoding R72), the record and the
frame as bytes (R70, R71, 41_codec R111, R112), reading a frame back (R114), and the smoothing arithmetic (43 R151).
Modular addition and subtraction (`add8`, `sub8`, `addC`, `sub32` of R13) are those of `BitVec`. -/

namespace Sys2Proof.Machine

/-- `le16` (R13): the byte at the lower offset holds bits 7:0 (R53, decision D1). -/
def le16 (v : U16) : List Byte := [v.extractLsb' 0 8, v.extractLsb' 8 8]

/-- `le32` (R13). -/
def le32 (v : U32) : List Byte :=
  [v.extractLsb' 0 8, v.extractLsb' 8 8, v.extractLsb' 16 8, v.extractLsb' 24 8]

/-- `from_le16` (R13): b0 + 256 b1. -/
def fromLe16 (b0 b1 : Byte) : U16 := BitVec.ofNat 16 (b0.toNat + 256 * b1.toNat)

/-- `from_le32` (R13). -/
def fromLe32 (b0 b1 b2 b3 : Byte) : U32 :=
  BitVec.ofNat 32 (b0.toNat + 256 * b1.toNat + 65536 * b2.toNat + 16777216 * b3.toNat)

/-- The 45 bytes the CRC covers (41_codec R111, 30_encoding R73): record offsets 0 to 44. -/
def body (ir : Vector U16 16) (us : Vector U16 4) (timestamp : U32) (sequence : Byte) : List Byte :=
  ir.toList.flatMap le16 ++ us.toList.flatMap le16 ++ le32 timestamp ++ [sequence]

theorem flatMap_le16_length (l : List U16) : (l.flatMap le16).length = 2 * l.length := by
  induction l with
  | nil => rfl
  | cons a l ih => simp only [List.flatMap_cons, List.length_append, ih, List.length_cons, le16, List.length_nil]; omega

theorem body_length (ir : Vector U16 16) (us : Vector U16 4) (timestamp : U32) (sequence : Byte) :
    (body ir us timestamp sequence).length = 45 := by
  simp only [body, List.length_append, flatMap_le16_length, Vector.length_toList, le32, List.length_cons, List.length_nil]

/-- The 46 bytes of a record, CRC byte last (R71, R72). -/
def recordBytes (r : Record) : List Byte :=
  body r.ir r.us r.timestamp r.sequence ++ [r.crc]

/-- The 48 bytes header, record, footer (R70). -/
def frameBytes (r : Record) : List Byte :=
  Config.headerByte :: (recordBytes r ++ [Config.footerByte])

theorem frameBytes_length (r : Record) : (frameBytes r).length = 48 := by
  simp [frameBytes, recordBytes, body_length]

/-- The frame of a record as a 48-byte buffer (R70). -/
def frameOfRecord (r : Record) : Vector Byte 48 :=
  ⟨(frameBytes r).toArray, by simp [frameBytes_length]⟩

/-- The record `ENCODE` builds from its four operands: the CRC is that of the body (41_codec R112). -/
def sealRecord (ir : Vector U16 16) (us : Vector U16 4) (timestamp : U32) (sequence : Byte) : Record where
  ir := ir
  us := us
  timestamp := timestamp
  sequence := sequence
  crc := crc8 (body ir us timestamp sequence)

/-- The frame `ENCODE` builds (41_codec R112). -/
def encodeFrame (ir : Vector U16 16) (us : Vector U16 4) (timestamp : U32) (sequence : Byte) : Vector Byte 48 :=
  frameOfRecord (sealRecord ir us timestamp sequence)

/-- Frame offsets 1 to 45 (R73). -/
def bodyOf (f : Vector Byte 48) : List Byte := (f.toList.drop 1).take 45

/-- The record in a frame's 46 record bytes (R72), addressed by frame offset (R71). -/
def recordOfFrame (f : Vector Byte 48) : Record where
  ir := Vector.ofFn fun i : Fin 16 => fromLe16 f[2 * i.val + 1] f[2 * i.val + 2]
  us := Vector.ofFn fun j : Fin 4 => fromLe16 f[33 + 2 * j.val] f[34 + 2 * j.val]
  timestamp := fromLe32 f[41] f[42] f[43] f[44]
  sequence := f[45]
  crc := f[46]

/-- What `DECODE` returns (30_encoding R77, 60_exceptions R190). -/
inductive DecodeResult where
  | ok (contents : Record)
  | badHeader
  | badFooter
  | checksumMismatch
deriving DecidableEq, Repr

/-- The decoding of a frame (41_codec R114): header, then footer, then CRC; the first failing check is the answer (R115). -/
def decodeFrame (f : Vector Byte 48) : DecodeResult :=
  if f[0] ≠ Config.headerByte then .badHeader
  else if f[47] ≠ Config.footerByte then .badFooter
  else if crc8 (bodyOf f) ≠ f[46] then .checksumMismatch
  else .ok (recordOfFrame f)

/-- `EWMA(a, l) = floor((9a + 65536 l) / 10)` in units of 1/65536 ms (43_receiver R151, decision D3). -/
def ewma (a : U48) (l : U32) : U48 :=
  BitVec.ofNat 48 ((9 * a.toNat + 65536 * l.toNat) / 10)

/-- What one accepted frame adds to `packets_lost` (43_receiver R148): `seq_diff - 1` if `seq_diff > 1`, else nothing;
`seq_diff` is the 8-bit wraparound difference from the cursor. -/
def lossOf (sequence cursor : Byte) : U32 :=
  if (sequence - cursor).toNat > 1 then (sequence - cursor).setWidth 32 - 1 else 0

end Sys2Proof.Machine
end

