-- ==== Sys2Proof/WellFormed.lean ====
section
/-! DEFINITION. Which terms of `Instr` stand for something that can be presented. Operand widths and lengths are exact by
their types (41_codec R116), and no operand value is reserved or illegal (30_encoding R79), so one check is left: the
record of a `FRAME` carries the CRC of its body (R79, R86). -/

namespace Sys2Proof

/-- The check of the `FRAME` row: frame offset 46 equals the CRC of offsets 1 to 45 (R79). -/
def Record.sealed (r : Record) : Bool :=
  r.crc == Machine.crc8 (Machine.body r.ir r.us r.timestamp r.sequence)

/-- Well-formed instructions. -/
def Instr.wellFormed : Instr → Bool
  | .crc8 _ => true
  | .encode _ _ _ _ => true
  | .decode _ => true
  | .configure _ => true
  | .send _ _ _ => true
  | .setConsumer _ => true
  | .tryReceive _ => true
  | .poll => true
  | .getStats => true
  | .resetStats => true
  | .frame contents => contents.sealed

end Sys2Proof
end

