-- ==== Sys2Proof/Decode.lean ====
section
/-! DEFINITION. From what is presented to an instruction, and back: the command word (30_encoding R75 to R78), the frame
(R79, R86), the encoder, and the host's view of a row of the opcode table as one number. -/

namespace Sys2Proof

/-- Why nothing is decoded. -/
inductive Undecoded where
  /-- a command word with `cmd[7:4] ≠ 0000` (R78) -/
  | reservedHighNibble
  /-- a command word 0x0A to 0x0F (R78) -/
  | reservedOperation
  /-- 48 bytes whose offset 0 is not the header (R79) -/
  | badHeader
  /-- 48 bytes whose offset 47 is not the footer (R79) -/
  | badFooter
  /-- 48 bytes whose offset 46 is not the CRC of offsets 1 to 45 (R79) -/
  | checksumMismatch
deriving DecidableEq, Repr

/-- The decoder of command words (R86): refuse unless `cmd[7:4] = 0` and `cmd[3:0] ≤ 9`, else take the operation of that
code (R76) with the operands on its ports (R77). -/
def decodeCommand (cmd : Byte) (ports : Ports) : Except Undecoded Instr :=
  if cmd.extractLsb' 4 4 ≠ 0 then .error .reservedHighNibble
  else
    match (cmd.extractLsb' 0 4).toNat with
    | 0 => .ok (.crc8 ports.span)
    | 1 => .ok (.encode ports.ir ports.us ports.timestamp ports.sequence)
    | 2 => .ok (.decode ports.frame)
    | 3 => .ok (.configure ports.chv)
    | 4 => .ok (.send ports.ir ports.us ports.rdv)
    | 5 => .ok (.setConsumer ports.en)
    | 6 => .ok (.tryReceive ports.timeoutMs)
    | 7 => .ok .poll
    | 8 => .ok .getStats
    | 9 => .ok .resetStats
    | _ => .error .reservedOperation

/-- The decoder of frames (R86): rule R79, then rule R72. -/
def decodeLink (bytes : Vector Byte 48) : Except Undecoded Instr :=
  match Machine.decodeFrame bytes with
  | .ok contents => .ok (.frame contents)
  | .badHeader => .error .badHeader
  | .badFooter => .error .badFooter
  | .checksumMismatch => .error .checksumMismatch

/-- The decoder: total on everything that can be presented. -/
def decode : Presented → Except Undecoded Instr
  | .command cmd ports => decodeCommand cmd ports
  | .frame bytes => decodeLink bytes

/-- The command word of an operation with its operands on their ports and every other port at zero (R76, R77); the 48
bytes of a frame (R70). -/
def encode : Instr → Presented
  | .crc8 span => .command 0x00#8 { Ports.zero with span := span }
  | .encode ir us timestamp sequence =>
      .command 0x01#8 { Ports.zero with ir := ir, us := us, timestamp := timestamp, sequence := sequence }
  | .decode frame => .command 0x02#8 { Ports.zero with frame := frame }
  | .configure chv => .command 0x03#8 { Ports.zero with chv := chv }
  | .send ir us rdv => .command 0x04#8 { Ports.zero with ir := ir, us := us, rdv := rdv }
  | .setConsumer en => .command 0x05#8 { Ports.zero with en := en }
  | .tryReceive timeoutMs => .command 0x06#8 { Ports.zero with timeoutMs := timeoutMs }
  | .poll => .command 0x07#8 Ports.zero
  | .getStats => .command 0x08#8 Ports.zero
  | .resetStats => .command 0x09#8 Ports.zero
  | .frame contents => .frame (Machine.frameOfRecord contents)

/-- The byte at frame offset k of a 384-bit number whose bits 383:376 are frame offset 0 (the numbering of the table's
`FRAME` row; R74 writes that byte leftmost). -/
def byteOfPattern (w k : Nat) : Byte := BitVec.ofNat 8 (w >>> (8 * (47 - k)))

/-- What a row of the opcode table presents: 384 bits are a frame at the link, anything else a command word with all
operand ports at zero (log 7, log 8). -/
def presentWord (nbits w : Nat) : Presented :=
  if nbits = 384 then .frame (Vector.ofFn fun k : Fin 48 => byteOfPattern w k.val)
  else .command (BitVec.ofNat 8 w) Ports.zero

/-- The instruction the decoder reads from a row's bits, none where it refuses. -/
def decodeTableWord (nbits w : Nat) : Option Instr :=
  match decode (presentWord nbits w) with
  | .ok i => some i
  | .error _ => none

end Sys2Proof
end

