-- ==== Sys2Proof/Machine/State.lean ====
section
/-! DEFINITION. The state of one instance of the block (10_state R20) as plain data, with what the outside world has
ready for it (`Env`) and what it has handed out (`outputs`); why a step can stop; the state after reset (R41). -/

namespace Sys2Proof.Machine

/-- The sequencing register of the Receiver (10_state R24). -/
inductive RxState where
  /-- no partial frame -/
  | idle
  /-- the header read is under way -/
  | awaitingHeader
  /-- a header byte matched, the remaining 47 bytes are awaited -/
  | awaitingFooter
  /-- all 48 bytes are there; also while the consumer handles a delivered record (60_exceptions R202) -/
  | validating
deriving DecidableEq, Repr

/-- How far an attempt in `Validating` has come (43_receiver R146 to R154): the steps between which another operation may
fall (20_memory R62 (c)). The model's own name for what the spec implies (log 10). -/
inductive Stage where
  /-- footer check and decode are next (steps 4 and 5); also the value while `rx_state` is not `Validating` -/
  | checking
  /-- the frame is valid and the clock was read; the commit is next (steps 6 to 8) -/
  | timed (now : U32)
  /-- the commit is made; the delivery is next (step 9) -/
  | committed
  /-- the record was delivered and the consumer has not returned (60_exceptions R202) -/
  | delivering
deriving DecidableEq, Repr

/-- The Link Statistics in snapshot order (44_stats_config R170, R171; 10_state R28 to R32). -/
structure LinkStats where
  packetsReceived : U32
  packetsLost : U32
  crcErrors : U32
  timeouts : U32
  /-- units of 1/65536 ms (R32) -/
  avgLatency : U48
deriving DecidableEq, Repr

/-- All five statistics zero (R41, R173). -/
def LinkStats.zero : LinkStats where
  packetsReceived := 0
  packetsLost := 0
  crcErrors := 0
  timeouts := 0
  avgLatency := 0

/-- Which of the two delimiters was wrong; `FrameSyncFailure` covers both (41_codec R117). -/
inductive Delimiter where
  | header
  | footer
deriving DecidableEq, Repr

/-- The six error events (60_exceptions R190). -/
inductive Event where
  | channelUnconfigured
  | invalidInput
  | timeout
  | linkFault
  | frameSyncFailure (which : Delimiter)
  | checksumMismatch
deriving DecidableEq, Repr

/-- The result of an attempt (10_state R35). -/
inductive Receipt where
  | noData
  | dataReceived
deriving DecidableEq, Repr

/-- The results operations return (R35); `POLL`, `CONFIGURE`, `SET_CONSUMER` and `RESET_STATS` return none. -/
inductive Result where
  | crc8 (value : Byte)
  | encode (frame : Vector Byte 48)
  | decode (status : DecodeResult)
  | send (accepted : Bool)
  | tryReceive (receipt : Receipt)
  | getStats (snapshot : LinkStats)
deriving DecidableEq, Repr

/-- What the block hands out (log 9): results, events (00_scope R14 `raise`), calls of its collaborators, deliveries. -/
inductive Output where
  | result (value : Result)
  | event (what : Event)
  /-- `ChanRead(n, t)` (20_memory R56) -/
  | chanRead (n : Nat) (timeoutMs : U32)
  /-- `ChanWrite(frame, t)`: the 48 bytes handed to the transmit primitive (R56) -/
  | chanWrite (bytes : Vector Byte 48) (timeoutMs : U32)
  /-- `Now()` and its answer (60_exceptions R207) -/
  | now (answer : U32)
  /-- `Deliver(rec)` (44_stats_config R179) -/
  | deliver (contents : Record)
deriving DecidableEq, Repr

/-- The answer to `ChanRead(n, t)` (00_scope R14): exactly n bytes, a timeout, or a fault. -/
inductive ReadAnswer (n : Nat) where
  | bytes (s : Vector Byte n)
  | timeout
  | fault
deriving DecidableEq, Repr

/-- The answer to `ChanWrite` (R14). -/
inductive WriteAnswer where
  | ok
  | fail
deriving DecidableEq, Repr

/-- What the receive primitive has ready, in order: bytes, and the expiries and faults of reads. The flag says whether
bytes that arrived before are left for the next read or gone: `CHAN_RESIDUE`, which is the environment's (20_memory R58,
decision D8; log 3). -/
inductive LineItem where
  | byte (b : Byte)
  | timeout (leavesBytes : Bool)
  | fault (leavesBytes : Bool)
deriving DecidableEq, Repr

/-- What the outside world does next (log 11). -/
inductive Input where
  /-- the host, or the consumer during a delivery, issues an operation; or a frame arrives at the link -/
  | present (what : Presented)
  /-- the receive primitive has one more item ready -/
  | lineItem (item : LineItem)
  /-- the transmit primitive has an answer ready -/
  | writeAnswer (a : WriteAnswer)
  /-- the clock has an answer ready -/
  | clockAnswer (t : U32)
  /-- the consumer returns from a delivery -/
  | consumerReturn
  /-- the RX unit takes one transition with what is ready -/
  | receiverProceeds
  /-- the TX unit takes one transition with what is ready -/
  | senderProceeds
  /-- hardware reset (70_reset_and_hazards R220) -/
  | hardwareReset
deriving DecidableEq, Repr

/-- The outside world as data: not state of the block (10_state R40), and arbitrary in every statement. -/
structure Env where
  /-- what happens next, oldest first -/
  inputs : List Input
  /-- what the receive primitive has ready, oldest first -/
  rxLine : List LineItem
  /-- answers of the transmit primitive, oldest first -/
  writeAnswers : List WriteAnswer
  /-- answers of the clock, oldest first -/
  clock : List U32
  /-- how many deliveries the consumer returns from without anything in between -/
  consumerReturns : Nat
deriving DecidableEq, Repr

/-- The state of the block and of its surroundings. -/
structure State where
  /-- the Sender's sequence counter (R26) -/
  txSeq : Byte
  /-- the cursor (R27) -/
  expectedSeq : Byte
  /-- the Link Statistics (R28 to R32) -/
  stats : LinkStats
  /-- a channel is configured (R33) -/
  configured : Bool
  /-- a consumer is registered (R34) -/
  consumerEn : Bool
  /-- the sequencing register (R24) -/
  rxState : RxState
  /-- the frame `ENCODE` built (R36) -/
  txbuf : Vector Byte 48
  /-- the frame being received (R37) -/
  rxbuf : Vector Byte 48
  /-- a `SEND` has called `ChanWrite` and has not taken its answer (R204); an answer that is ready but not taken does not
  end it: DESIGN CHOICE (log 10) -/
  sending : Bool
  /-- how far the attempt in `Validating` has come (R146 to R154, R202; log 10) -/
  stage : Stage
  /-- the attempt in progress was issued by `POLL` (R157; log 10) -/
  pollAttempt : Bool
  /-- the outside world (log 2) -/
  env : Env
  /-- how many clock reads were made; the counter of the free value `Config.freeNow` (log 4) -/
  clockReads : Nat
  /-- how many failed operations left a buffer dead; the counter of the free value `Config.freeBuffer` (log 27) -/
  deadBuffers : Nat
  /-- what the block handed out, oldest first (log 9) -/
  outputs : List Output
deriving DecidableEq, Repr

/-- No step of the block faults: every error event is absorbed (60_exceptions R198) and nothing is fatal (R200, "A model
has no fault outcome for any of the six events"). The type has no constructor, so nothing raises one (log 23). -/
inductive Fault where
deriving DecidableEq, Repr

/-- The refusals, which are the spec's own (R200): they mark sequences of operations the source does not describe. No
state changes. All are safe: the model stops where the spec defines no behaviour. -/
inductive Refusal where
  /-- an arm of `exec` without a meaning; none is left -/
  | notModelled (mnemonic : String)
  /-- raised by the step on a reserved command word (30_encoding R78) -/
  | reservedCommand
  /-- raised by `TRY_RECEIVE` and `POLL` while an attempt is in progress (43_receiver R142 (a)) -/
  | receiverBusy
  /-- raised by `CONFIGURE` and `SET_CONSUMER` while an attempt or a `SEND` is in progress (44_stats_config R180) -/
  | operationInProgress
  /-- raised by `ENCODE` and `SEND` while a `SEND` is in progress (60_exceptions R204) -/
  | senderBusy
deriving DecidableEq, Repr

/-- Nothing ready, nothing to do. -/
def Env.empty : Env where
  inputs := []
  rxLine := []
  writeAnswers := []
  clock := []
  consumerReturns := 0

/-- The state after hardware reset (R41). The two buffers are unspecified there: all zero is DESIGN CHOICE (log 1), as are
the model's own fields (log 21). -/
def State.reset : State where
  txSeq := 0
  expectedSeq := 0
  stats := LinkStats.zero
  configured := false
  consumerEn := false
  rxState := .idle
  txbuf := Vector.replicate 48 0
  rxbuf := Vector.replicate 48 0
  sending := false
  stage := .checking
  pollAttempt := false
  env := Env.empty
  clockReads := 0
  deadBuffers := 0
  outputs := []

end Sys2Proof.Machine
end

