-- ==== Sys2Proof/Machine/Flags.lean ====
section
/-! DEFINITION. The block has no status flags (10_state R35). What it has instead are result codes, event codes and the
encoding of `rx_state`: the numbers on the result ports and in a test bench (60_exceptions R190, 10_state R25). No
operation reads one of them. -/

namespace Sys2Proof.Machine

/-- `rx_state` as two bits (R25). -/
def rxStateCode : RxState → BitVec 2
  | .idle => 0
  | .awaitingHeader => 1
  | .awaitingFooter => 2
  | .validating => 3

/-- `SEND`: false 0, true 1 (R190). -/
def sendCode (b : Bool) : Nat := b.toNat

/-- `TRY_RECEIVE`: NoData 0, DataReceived 1 (R190). -/
def receiptCode : Receipt → Nat
  | .noData => 0
  | .dataReceived => 1

/-- `DECODE` status: Ok 0, BadHeader 1, BadFooter 2, ChecksumMismatch 3 (R190). -/
def decodeCode : DecodeResult → Nat
  | .ok _ => 0
  | .badHeader => 1
  | .badFooter => 2
  | .checksumMismatch => 3

/-- Event codes 1 to 6 (R190); bad header and bad footer are one event (R117). -/
def eventCode : Event → Nat
  | .channelUnconfigured => 1
  | .invalidInput => 2
  | .timeout => 3
  | .linkFault => 4
  | .frameSyncFailure _ => 5
  | .checksumMismatch => 6

/-- The counter an event adds to (R190, R192): only `Timeout` and `ChecksumMismatch` are counted (R193). -/
def countEvent (e : Event) (c : LinkStats) : LinkStats :=
  match e with
  | .channelUnconfigured => c
  | .invalidInput => c
  | .timeout => { c with timeouts := c.timeouts + 1 }
  | .linkFault => c
  | .frameSyncFailure _ => c
  | .checksumMismatch => { c with crcErrors := c.crcErrors + 1 }

end Sys2Proof.Machine
end

