-- ==== Sys2Proof/Machine/Ops.lean ====
section
/-! DEFINITION. The operations the meanings share: handing out, absorbing an event (the block's "taking an exception",
60_exceptions R198), reading the clock, reading the channel, ending an attempt, hardware reset. -/

namespace Sys2Proof.Machine

/-- The outcome of an operation of this machine. -/
abbrev Answer := Host.Outcome State Fault Refusal

/-- Hand something out. -/
def State.emit (s : State) (o : Output) : State := { s with outputs := s.outputs ++ [o] }

/-- Record an error event and add to the counter it has, if any (R190, R191: nothing else is recorded). -/
def State.raise (s : State) (e : Event) : State :=
  { s.emit (.event e) with stats := countEvent e s.stats }

/-- The end of an attempt: back to `Idle` (R140); the result goes to the host unless `POLL` discards it (R157). -/
def State.endAttempt (s : State) (r : Receipt) : State :=
  { s with
    rxState := .idle
    stage := .checking
    pollAttempt := false
    outputs := s.outputs ++ if s.pollAttempt then [] else [.result (.tryReceive r)] }

/-- A failed attempt leaves `rxbuf` dead (R198, 10_state R37): any value (93_implementation_defined U10; log 27).
DESIGN CHOICE (log 27): drawn from the one `Config.freeBuffer` at this instance's own count. -/
def State.loseRxbuf (s : State) : State :=
  { s with rxbuf := Config.freeBuffer s.deadBuffers, deadBuffers := s.deadBuffers + 1 }

/-- A failed transmit leaves `txbuf` dead (10_state R36): any value (U10; log 27). DESIGN CHOICE (log 27): drawn from the one
`Config.freeBuffer` at this instance's own count. -/
def State.loseTxbuf (s : State) : State :=
  { s with txbuf := Config.freeBuffer s.deadBuffers, deadBuffers := s.deadBuffers + 1 }

/-- TAKING AN EXCEPTION, receive side (R198): the increment of R190 if any, `rx_state <- Idle`, the negative result, the
buffer dead; nothing is saved and control goes nowhere. There is no return from it (R201): the next attempt begins
afresh. -/
def State.absorb (s : State) (e : Event) : State := (s.raise e).loseRxbuf.endAttempt .noData

/-- What `Now()` answers (60_exceptions R207): the next answer the environment holds, else a free value. DESIGN CHOICE
(log 4): every instance draws that value from the one `Config.freeNow` at its own count of clock reads, so two instances with
equal counts and no answers get equal ones, which the spec does not say of two nodes' clocks. -/
def State.nowAnswer (s : State) : U32 :=
  match s.env.clock with
  | t :: _ => t
  | [] => Config.freeNow s.clockReads

/-- One clock read: the answer is used up and the read is seen outside. -/
def State.readClock (s : State) : State :=
  { s with
    env := { s.env with clock := s.env.clock.tail }
    clockReads := s.clockReads + 1
    outputs := s.outputs ++ [.now s.nowAnswer] }

/-- The bytes at the front of the line, up to the first expiry or fault. -/
def leadingBytes : List LineItem → List Byte
  | .byte b :: l => b :: leadingBytes l
  | .timeout _ :: _ => []
  | .fault _ :: _ => []
  | [] => []

/-- `ChanRead(n, ·)` (R206): n bytes as soon as n are there, else the expiry or fault that stands in their way, else no
answer yet (none). Bytes answered are consumed (20_memory R57); those before an expiry or fault are gone or left as the
environment says (R58). -/
def chanRead (n : Nat) (line : List LineItem) : Option (ReadAnswer n × List LineItem) :=
  let arrived := (leadingBytes line).take n
  if h : arrived.length = n then some (.bytes ⟨arrived.toArray, by simpa using h⟩, line.drop n)
  else
    match line.drop arrived.length with
    | .timeout leaves :: rest => some (.timeout, if leaves then line.take arrived.length ++ rest else rest)
    | .fault leaves :: rest => some (.fault, if leaves then line.take arrived.length ++ rest else rest)
    | .byte _ :: _ => none
    | [] => none

/-- The line after a read. -/
def State.setLine (s : State) (line : List LineItem) : State :=
  { s with env := { s.env with rxLine := line } }

/-- 48 bytes arrive at the receive primitive, in ascending frame offset (20_memory R54). -/
def State.arrive (s : State) (bytes : Vector Byte 48) : State :=
  s.setLine (s.env.rxLine ++ bytes.toList.map .byte)

/-- HARDWARE RESET (70_reset_and_hazards R220): every element of R41 at its reset value, an operation in progress abandoned
without result. What the outside world holds and what was handed out before stay (log 16). -/
def State.hardwareReset (s : State) : State :=
  { State.reset with env := s.env, clockReads := s.clockReads, deadBuffers := s.deadBuffers, outputs := s.outputs }

end Sys2Proof.Machine
end

