-- ==== Sys2Proof/Machine/Codec.lean ====
section
/-! DEFINITION. The family CRC and codec: `CRC8` (40_crc R104), `ENCODE` (41_codec R112), `DECODE` (R114). -/

namespace Sys2Proof.Machine

/-- `CRC8` (R104): reads its operand only, cannot fail, may be issued at any time. -/
def execCrc8 (span : List Byte) (s : State) : Answer :=
  .next (s.emit (.result (.crc8 (crc8 span))))

/-- `ENCODE` (R112): fills `txbuf` and returns it; refused while a `SEND` uses `txbuf` (60_exceptions R204). -/
def execEncode (ir : Vector U16 16) (us : Vector U16 4) (timestamp : U32) (sequence : Byte) (s : State) : Answer :=
  if s.sending then .refused .senderBusy
  else
    .next ({ s with txbuf := encodeFrame ir us timestamp sequence }.emit
      (.result (.encode (encodeFrame ir us timestamp sequence))))

/-- `DECODE` (R114): the status is the result; nothing is written and nothing is counted. -/
def execDecode (frame : Vector Byte 48) (s : State) : Answer :=
  .next (s.emit (.result (.decode (decodeFrame frame))))

end Sys2Proof.Machine
end

