-- ==== Sys2Proof/Machine/Link.lean ====
section
/-! DEFINITION. The `FRAME` row (30_encoding R70, R74, R86): 48 bytes of a frame reach the node. -/

namespace Sys2Proof.Machine

/-- `FRAME` (log 6): the 48 bytes (R70) become available to the receive primitive, in ascending offset (20_memory R54). They
are data only: no register of the block changes until an attempt reads them (R67). -/
def execFrame (contents : Record) (s : State) : Answer :=
  .next (s.arrive (frameOfRecord contents))

end Sys2Proof.Machine
end

