-- ==== Sys2Proof/Machine/Receiver.lean ====
section
/-! DEFINITION. The receiver: the transitions of 43_receiver R155, `TRY_RECEIVE` (R154) and `POLL` (R157). -/

namespace Sys2Proof.Machine

/-- Steps 1 and 2 (R143, R144): the answer of the header read. -/
def headerAnswered (a : ReadAnswer 1) (s : State) : State :=
  match a with
  | .timeout => s.absorb .timeout
  | .fault => s.absorb .linkFault
  | .bytes h =>
    if h[0] ≠ Config.headerByte then s.absorb (.frameSyncFailure .header)
    else
      { s with rxbuf := s.rxbuf.set 0 h[0], rxState := .awaitingFooter }.emit (.chanRead 47 Config.tBodyMs)

/-- Step 3 (R145): the answer of the body read. -/
def bodyAnswered (a : ReadAnswer 47) (s : State) : State :=
  match a with
  | .timeout => s.absorb .timeout
  | .fault => s.absorb .linkFault
  | .bytes v =>
    { s with rxbuf := (#v[s.rxbuf[0]] ++ v : Vector Byte (1 + 47)), rxState := .validating }

/-- The commit (R148 to R152): loss, cursor, count and smoothed latency in one update. -/
def commit (contents : Record) (now : U32) (s : State) : State :=
  { s with
    expectedSeq := contents.sequence + 1
    stats :=
      { s.stats with
        packetsLost := s.stats.packetsLost + lossOf contents.sequence s.expectedSeq
        packetsReceived := s.stats.packetsReceived + 1
        avgLatency := ewma s.stats.avgLatency (now - contents.timestamp) } }

/-- Steps 6 to 8 as one transition (R152): the commit of the record in `rxbuf` with the clock answer taken before. -/
def commitTimed (now : U32) (s : State) : State :=
  { commit (recordOfFrame s.rxbuf) now s with stage := .committed }

/-- Step 9 (R153): with a consumer the record is delivered and the attempt waits for it, else the attempt ends. -/
def deliverOrEnd (s : State) : State :=
  if s.consumerEn then { s with stage := .delivering }.emit (.deliver (recordOfFrame s.rxbuf))
  else s.endAttempt .dataReceived

/-- Steps 4 and 5 (R146, R147) and, on a valid frame, the clock read that R152 puts before the commit. The header case of
`decodeFrame` cannot arise in an attempt (R147) and is absorbed like every header failure (log 14). -/
def validate (s : State) : State :=
  if s.rxbuf[47] ≠ Config.footerByte then s.absorb (.frameSyncFailure .footer)
  else
    match decodeFrame s.rxbuf with
    | .badHeader => s.absorb (.frameSyncFailure .header)
    | .badFooter => s.absorb (.frameSyncFailure .footer)
    | .checksumMismatch => s.absorb .checksumMismatch
    | .ok _ => { s.readClock with stage := .timed s.nowAnswer }

/-- The consumer's return ends the attempt (R153), once it is there. -/
def consumerReturned (s : State) : State :=
  match s.env.consumerReturns with
  | 0 => s
  | k + 1 => { s with env := { s.env with consumerReturns := k } }.endAttempt .dataReceived

/-- One transition of the attempt, if its answer is there; otherwise the attempt waits. The rows of R155, with its accepting
row in the four parts that R62 (c), R152 and R153 separate: clock read, commit, delivery, the consumer's return. -/
def rxAdvance (s : State) : State :=
  match s.rxState with
  | .idle => s
  | .awaitingHeader =>
    match chanRead 1 s.env.rxLine with
    | none => s
    | some (a, line) => headerAnswered a (s.setLine line)
  | .awaitingFooter =>
    match chanRead 47 s.env.rxLine with
    | none => s
    | some (a, line) => bodyAnswered a (s.setLine line)
  | .validating =>
    match s.stage with
    | .checking => validate s
    | .timed now => commitTimed now s
    | .committed => deliverOrEnd s
    | .delivering => consumerReturned s

/-- The whole walk through the table: header, body, validation, commit, delivery, the consumer's return (R154). It goes as
far as the answers that are there; an attempt that waits goes on in a later step (log 12). -/
def runAttempt (s : State) : State := rxAdvance (rxAdvance (rxAdvance (rxAdvance (rxAdvance (rxAdvance s)))))

/-- The start of an attempt (R142): refused if one is in progress; `NoData` at once without a channel, touching nothing
(70_reset_and_hazards R226); else the header read is requested and the attempt runs. -/
def attempt (timeoutMs : U32) (byPoll : Bool) (s : State) : Answer :=
  if s.rxState ≠ .idle then .refused .receiverBusy
  else if !s.configured then .next (({ s with pollAttempt := byPoll }.raise .channelUnconfigured).endAttempt .noData)
  else
    .next (runAttempt ({ s with rxState := .awaitingHeader, stage := .checking, pollAttempt := byPoll }.emit
      (.chanRead 1 timeoutMs)))

/-- `TRY_RECEIVE` (R154). -/
def execTryReceive (timeoutMs : U32) (s : State) : Answer := attempt timeoutMs false s

/-- `POLL` (R157): `TRY_RECEIVE` with a zero timeout, the result discarded. -/
def execPoll (s : State) : Answer := attempt 0 true s

end Sys2Proof.Machine
end

