-- ==== Sys2Proof/Machine/Sender.lean ====
section
/-! DEFINITION. The sender: `SEND` (42_sender R125 to R133). -/

namespace Sys2Proof.Machine

/-- A `SEND` that fails: the event is recorded and the result is `false` (60_exceptions R199). -/
def State.sendFails (s : State) (e : Event) : State :=
  (s.raise e).emit (.result (.send false))

/-- R127 to R131 up to the `ChanWrite` call: one clock read, the sequence number copied and then incremented whatever the
outcome, the frame built in `txbuf` and handed over. -/
def beginSend (ir : Vector U16 16) (us : Vector U16 4) (s : State) : State :=
  let frame := encodeFrame ir us s.nowAnswer s.txSeq
  { s.readClock with
    txSeq := s.txSeq + 1
    txbuf := frame
    sending := true }.emit (.chanWrite frame Config.tTxMs)

/-- The answer of the `ChanWrite` in flight, once it is there (R131): `Ok` gives true, `Fail` gives `LinkFault` and false.
No answer yet: the `SEND` waits. It ends in this transition and not before, even if the answer is ready: DESIGN CHOICE
(log 10). -/
def txAdvance (s : State) : State :=
  if s.sending then
    match s.env.writeAnswers with
    | [] => s
    | .ok :: rest =>
      { s with sending := false, env := { s.env with writeAnswers := rest } }.emit (.result (.send true))
    | .fail :: rest =>
      { s with sending := false, env := { s.env with writeAnswers := rest } }.loseTxbuf.sendFails .linkFault
  else s

/-- `SEND` (R133). A second `SEND` during the first is refused (60_exceptions R204, log 15). -/
def execSend (ir : Vector U16 16) (us : Vector U16 4) (rdv : Bool) (s : State) : Answer :=
  if s.sending then .refused .senderBusy
  else if !s.configured then .next (s.sendFails .channelUnconfigured)
  else if !rdv then .next (s.sendFails .invalidInput)
  else .next (txAdvance (beginSend ir us s))

end Sys2Proof.Machine
end

