-- ==== Sys2Proof/Machine/Stats.lean ====
section
/-! DEFINITION. Statistics and configuration: `GET_STATS` (44_stats_config R171), `RESET_STATS` (R173), `CONFIGURE`
(R176), `SET_CONSUMER` (R178). -/

namespace Sys2Proof.Machine

/-- `GET_STATS` (R171): a copy of the five statistics in one transition; may be issued at any time (R172). -/
def execGetStats (s : State) : Answer :=
  .next (s.emit (.result (.getStats s.stats)))

/-- `RESET_STATS` (R173): the five statistics and the cursor to zero in one transition, nothing else (R174), at any time
(R175). -/
def execResetStats (s : State) : Answer :=
  .next { s with stats := LinkStats.zero, expectedSeq := 0 }

/-- An attempt or a `SEND` is in progress (R180). -/
def State.inOperation (s : State) : Bool := s.rxState != .idle || s.sending

/-- `CONFIGURE` (R176, R180). -/
def execConfigure (chv : Bool) (s : State) : Answer :=
  if s.inOperation then .refused .operationInProgress else .next { s with configured := chv }

/-- `SET_CONSUMER` (R178, R180). -/
def execSetConsumer (en : Bool) (s : State) : Answer :=
  if s.inOperation then .refused .operationInProgress else .next { s with consumerEn := en }

end Sys2Proof.Machine
end

