-- ==== Sys2Proof/Machine/Dispatch.lean ====
section
/-! DEFINITION. One arm per row of spec/opcode_table.json. -/

namespace Sys2Proof.Machine

def exec (i : Instr) (s : State) : Host.Outcome State Fault Refusal :=
  match i with
  | .crc8 span => Sys2Proof.Machine.execCrc8 span s
  | .encode ir us timestamp sequence => Sys2Proof.Machine.execEncode ir us timestamp sequence s
  | .decode frame => Sys2Proof.Machine.execDecode frame s
  | .configure chv => Sys2Proof.Machine.execConfigure chv s
  | .send ir us rdv => Sys2Proof.Machine.execSend ir us rdv s
  | .setConsumer en => Sys2Proof.Machine.execSetConsumer en s
  | .tryReceive timeoutMs => Sys2Proof.Machine.execTryReceive timeoutMs s
  | .poll => Sys2Proof.Machine.execPoll s
  | .getStats => Sys2Proof.Machine.execGetStats s
  | .resetStats => Sys2Proof.Machine.execResetStats s
  | .frame contents => Sys2Proof.Machine.execFrame contents s

end Sys2Proof.Machine
end

