-- ==== Sys2Proof/Machine/Inputs.lean ====
section
/-! DEFINITION. What one input of the outside world does, and what the units do when there is none (log 11). -/

namespace Sys2Proof.Machine

/-- Something presented that does not decode: a reserved command word is refused (30_encoding R78); bytes at the link that
are no valid frame arrive like any others and are rejected by the attempt that reads them (R79; log 26). -/
def undecoded (what : Presented) (s : State) : Answer :=
  match what with
  | .command _ _ => .refused .reservedCommand
  | .frame bytes => .next (s.arrive bytes)

/-- Something presented: decoded and executed. -/
def present (what : Presented) (s : State) : Answer :=
  match decode what with
  | .ok i => exec i s
  | .error _ => undecoded what s

/-- One input. An answer that becomes ready changes no unit: the unit takes it in a transition of its own, and until then
what may not overlap its operation is still refused (DESIGN CHOICE, log 10). -/
def applyInput (input : Input) (s : State) : Answer :=
  match input with
  | .present what => present what s
  | .lineItem item => .next (s.setLine (s.env.rxLine ++ [item]))
  | .writeAnswer a => .next { s with env := { s.env with writeAnswers := s.env.writeAnswers ++ [a] } }
  | .clockAnswer t => .next { s with env := { s.env with clock := s.env.clock ++ [t] } }
  | .consumerReturn => .next { s with env := { s.env with consumerReturns := s.env.consumerReturns + 1 } }
  | .receiverProceeds => .next (rxAdvance s)
  | .senderProceeds => .next (txAdvance s)
  | .hardwareReset => .next s.hardwareReset

/-- With nothing from outside the operations in progress go on as far as their answers allow, the RX unit first; if none
is in progress the block waits (70_reset_and_hazards R224). -/
def proceed (s : State) : Answer := .next (txAdvance (rxAdvance s))

/-- The state without its first input. -/
def State.setInputs (s : State) (inputs : List Input) : State :=
  { s with env := { s.env with inputs := inputs } }

/-- The next thing that happens: the oldest input, or what the units do by themselves. -/
def happens (s : State) : Answer :=
  match s.env.inputs with
  | [] => proceed s
  | input :: rest => applyInput input (s.setInputs rest)

/-- The state in which a row of the opcode table is presented next (log 17). -/
def State.presentNext (s : State) (what : Presented) : State :=
  s.setInputs (.present what :: s.env.inputs)

end Sys2Proof.Machine
end

