-- ==== Sys2Proof/Machine/Step.lean ====
section
/-! DEFINITION. The step: one input of the outside world, or the units going on by themselves. -/

namespace Sys2Proof.Machine

/-- One step of the machine. -/
def step (s : State) : Host.Outcome State Fault Refusal := happens s

/-- The state in which the row's bits are what is presented next: a command word at the host's port or a frame at the link
(log 17). -/
def State.withFetchWord (s : State) (nbits w : Nat) : State := s.presentNext (presentWord nbits w)

end Sys2Proof.Machine
end

