-- ==== Sys2Proof/Safety.lean ====
section
/-! DEFINITION. What the claims speak of: valid frames, the invariant of the machine, and the vocabulary of attempts. -/

namespace Sys2Proof.Machine

/-- A structurally valid frame (30_encoding R79, 10_state R27): header, footer, and offset 46 the CRC of offsets 1 to 45. -/
abbrev validFrame (f : Vector Byte 48) : Prop :=
  f[0] = Config.headerByte ∧ f[47] = Config.footerByte ∧ f[46] = crc8 (bodyOf f)

/-- What holds between any two steps, whatever the outside world does. -/
structure Inv (s : State) : Prop where
  /-- an attempt in progress has a channel (43_receiver R142 (b), 44_stats_config R180) -/
  attempt_configured : s.rxState ≠ .idle → s.configured = true
  /-- a `SEND` in progress has a channel (42_sender R126, 44_stats_config R180) -/
  send_configured : s.sending = true → s.configured = true
  /-- past the header wait the buffer starts with the header byte (43_receiver R144, R147) -/
  header_held : s.rxState = .awaitingFooter ∨ s.rxState = .validating → s.rxbuf[0] = Config.headerByte
  /-- past the checks the attempt is in `Validating` with a valid frame in its buffer (43_receiver R146, R147) -/
  stage_accepted : s.stage ≠ .checking → s.rxState = .validating ∧ validFrame s.rxbuf
  /-- a delivery has a consumer (43_receiver R153, 60_exceptions R202) -/
  delivery_consumer : s.stage = .delivering → s.consumerEn = true
  /-- only an attempt in progress is a poll's (43_receiver R157) -/
  poll_in_progress : s.pollAttempt = true → s.rxState ≠ .idle
  /-- while a `SEND` waits, `txbuf` holds its valid frame, whose sequence number is the one before `tx_seq`
  (10_state R36, 42_sender R129, 60_exceptions R204) -/
  frame_held : s.sending = true → validFrame s.txbuf ∧ s.txbuf[45] = s.txSeq - 1

/-- The budget of the header read an instruction asks for, if it is an attempt (43_receiver R143, R157). -/
def attemptBudget : Instr → Option U32
  | .tryReceive timeoutMs => some timeoutMs
  | .poll => some 0
  | .crc8 _ => none
  | .encode _ _ _ _ => none
  | .decode _ => none
  | .configure _ => none
  | .send _ _ _ => none
  | .setConsumer _ => none
  | .getStats => none
  | .resetStats => none
  | .frame _ => none

/-- What is in progress that the instruction may not overlap (43_receiver R142 (a), 44_stats_config R180, 60_exceptions
R204). -/
def mustWait (i : Instr) (s : State) : Prop :=
  match i with
  | .tryReceive _ => s.rxState ≠ .idle
  | .poll => s.rxState ≠ .idle
  | .configure _ => s.rxState ≠ .idle ∨ s.sending = true
  | .setConsumer _ => s.rxState ≠ .idle ∨ s.sending = true
  | .encode _ _ _ _ => s.sending = true
  | .send _ _ _ => s.sending = true
  | .crc8 _ => False
  | .decode _ => False
  | .getStats => False
  | .resetStats => False
  | .frame _ => False

/-- The instruction the next step runs, if it runs one (30_encoding R76, R86). -/
def State.runs (s : State) : Option Instr :=
  match s.env.inputs with
  | .present what :: _ => (decode what).toOption
  | _ => none

/-- The next step is a hardware reset (70_reset_and_hazards R220). -/
def State.isReset (s : State) : Prop := s.env.inputs.head? = some .hardwareReset

/-- The next step lets the RX unit make a transition of an attempt in progress, by itself or at the moment the outside
fixes (log 11). -/
def State.attemptGoesOn (s : State) : Prop :=
  s.rxState ≠ .idle ∧ (s.env.inputs = [] ∨ s.env.inputs.head? = some .receiverProceeds)

/-- What an attempt returns to the host at its end: nothing if it is a poll (43_receiver R157). -/
def returned (i : Instr) (r : Receipt) : List Output :=
  if i = .poll then [] else [.result (.tryReceive r)]

/-- The 48 bytes of an attempt whose header matched and whose body read answered v (43_receiver R144, R145). -/
def received (v : Vector Byte 47) : Vector Byte 48 := (#v[Config.headerByte] ++ v : Vector Byte (1 + 47))

/-- The error event an output records, if it records one. -/
def Output.isEvent : Output → Bool
  | .event _ => true
  | .result _ => false
  | .chanRead _ _ => false
  | .chanWrite _ _ => false
  | .now _ => false
  | .deliver _ => false

/-- The receiver's own part of the state (10_state R20, R24, R37; log 10). -/
structure ReceiverPart where
  expectedSeq : Byte
  stats : LinkStats
  rxState : RxState
  rxbuf : Vector Byte 48
  stage : Stage
  pollAttempt : Bool

/-- The state with another receiver part. -/
def State.withReceiver (s : State) (p : ReceiverPart) : State :=
  { s with
    expectedSeq := p.expectedSeq
    stats := p.stats
    rxState := p.rxState
    rxbuf := p.rxbuf
    stage := p.stage
    pollAttempt := p.pollAttempt }

/-- The outcome with the receiver part of its next state replaced. -/
def Answer.withReceiver (a : Answer) (p : ReceiverPart) : Answer :=
  match a with
  | .next t => .next (t.withReceiver p)
  | .fault r => .fault r
  | .refused r => .refused r

end Sys2Proof.Machine
end

