-- ==== Sys2Proof/Certificates/Slice0/Obligations.lean ====
section
/-! DEFINITION. The statements for the provers. -/

open Sys2Proof Sys2Proof.Machine

/-! ### Reset and the invariant -/

/-- 70 R220, 10 R41: whatever goes on, a hardware reset leaves the registers at their reset values (the zero of `configured`
and `consumer_en` is the spec's decision D9), abandons an operation in progress without a result, and leaves the outside
world alone (log 16). The buffers are left open, as there. -/
def Obligations.HardwareResetRegisters : Prop :=
  ∀ (s : State) (rest : List Input), s.env.inputs = .hardwareReset :: rest →
    ∃ t, step s = .next t ∧ t.txSeq = 0 ∧ t.expectedSeq = 0 ∧ t.stats = ⟨0, 0, 0, 0, 0⟩ ∧ t.rxState = .idle ∧
      t.configured = false ∧ t.consumerEn = false ∧ t.sending = false ∧ t.stage = .checking ∧
      t.outputs = s.outputs ∧ t.env = { s.env with inputs := rest }

/-- 10 R41: the registers of the state after reset (log 1 and 21 say what the model chose for the rest). -/
def Obligations.ResetStateRegisters : Prop :=
  State.reset.txSeq = 0 ∧ State.reset.expectedSeq = 0 ∧ State.reset.stats = ⟨0, 0, 0, 0, 0⟩ ∧
    State.reset.rxState = .idle ∧ State.reset.configured = false ∧ State.reset.consumerEn = false ∧
    ∀ s : State, s.hardwareReset.expectedSeq = State.reset.expectedSeq ∧ s.hardwareReset.stats = State.reset.stats

/-- The invariant holds at reset. -/
def Obligations.InvariantAtReset : Prop := Inv State.reset

/-- Every step, whatever the outside world does, keeps the invariant: an attempt or a SEND in progress has a channel, the
buffers of the operations in progress hold what the rules say, a delivery belongs to an accepted frame. -/
def Obligations.StepKeepsInvariant : Prop :=
  ∀ s t : State, Inv s → step s = .next t → Inv t

/-! ### Decoding and stepping -/

/-- When what is presented decodes to i, the step is exec of i, in the state without that input. -/
def Obligations.StepRunsDecodedInstruction : Prop :=
  ∀ (s : State) (what : Presented) (rest : List Input) (i : Instr),
    s.env.inputs = .present what :: rest → decode what = .ok i →
      step s = exec i { s with env := { s.env with inputs := rest } }

/-- 30 R76 (the spec's decision D15): the ten command words, each written out, with the operands on the ports of R77. -/
def Obligations.CommandWordsDecode : Prop :=
  ∀ p : Ports,
    decode (.command 0b00000000#8 p) = .ok (.crc8 p.span) ∧
    decode (.command 0b00000001#8 p) = .ok (.encode p.ir p.us p.timestamp p.sequence) ∧
    decode (.command 0b00000010#8 p) = .ok (.decode p.frame) ∧
    decode (.command 0b00000011#8 p) = .ok (.configure p.chv) ∧
    decode (.command 0b00000100#8 p) = .ok (.send p.ir p.us p.rdv) ∧
    decode (.command 0b00000101#8 p) = .ok (.setConsumer p.en) ∧
    decode (.command 0b00000110#8 p) = .ok (.tryReceive p.timeoutMs) ∧
    decode (.command 0b00000111#8 p) = .ok .poll ∧
    decode (.command 0b00001000#8 p) = .ok .getStats ∧
    decode (.command 0b00001001#8 p) = .ok .resetStats

/-- 30 R78 (D15): a command word of 10 or more, which is 0x0A to 0x0F or one with a non-zero high nibble, is refused, and
every other one decodes. -/
def Obligations.ReservedCommandWordsRefused : Prop :=
  ∀ (s : State) (cmd : Byte) (p : Ports) (rest : List Input), s.env.inputs = .present (.command cmd p) :: rest →
    if 10 ≤ cmd.toNat then step s = .refused .reservedCommand
    else ∃ i, decode (.command cmd p) = .ok i ∧ step s = exec i { s with env := { s.env with inputs := rest } }

/-- Decoding the encoding of a well-formed instruction gives it back, for every operand value: no bit of a frame's 384 and
no operand is dropped. -/
def Obligations.DecodeOfEncode : Prop :=
  ∀ i : Instr, i.wellFormed = true → decode (encode i) = .ok i

/-- The other direction: what decodes to i is well-formed and carries the command word of i's encoding, and at the link
exactly its 48 bytes; so no two frames and no two command words decode to one instruction. -/
def Obligations.EncodeOfDecode : Prop :=
  ∀ (what : Presented) (i : Instr), decode what = .ok i →
    i.wellFormed = true ∧
    match what with
    | .command cmd _ => ∃ ports, encode i = .command cmd ports
    | .frame bytes => encode i = .frame bytes

/-! ### The CRC engine -/

/-- 40 R101 to R104: CRC8 (command word 0x00) returns the CRC of its operand in every state, whatever the operand, and changes
nothing else. The CRC is the recursion of R103: 0x00 for the empty span, and for one byte more that byte XORed in and then
eight bit steps of R101; so a span of zeros of any length gives 0x00, and the one byte 0x01 gives 0x07. -/
def Obligations.Crc8Completes : Prop :=
  let bitStep (a : Byte) : Byte := if a.getLsbD 7 then (a <<< 1) ^^^ 0x07#8 else a <<< 1
  ∀ (span : List Byte) (s : State) (p : Ports),
    decode (.command 0x00#8 { p with span := span }) = .ok (.crc8 span) ∧
    exec (.crc8 span) s = .next { s with outputs := s.outputs ++ [.result (.crc8 (crc8 span))] } ∧
    crc8 [] = 0x00#8 ∧ (∀ b : Byte, crc8 (span ++ [b]) = bitStep^[8] (crc8 span ^^^ b)) ∧
    (∀ n, crc8 (List.replicate n 0) = 0) ∧ crc8 [0x01#8] = 0x07#8

/-- 40 R105 (a): leading zero bytes do not change the CRC, and any number of them alone gives 0x00. -/
def Obligations.CrcIgnoresLeadingZeros : Prop :=
  ∀ (n : Nat) (s : List Byte), crc8 (List.replicate n 0 ++ s) = crc8 s ∧ crc8 (List.replicate n 0) = 0

/-- 40 R105 (b): linearity over exclusive-or for spans of equal length. -/
def Obligations.CrcIsLinear : Prop :=
  ∀ s t : List Byte, s.length = t.length →
    crc8 (List.zipWith (fun a b => a ^^^ b) s t) = crc8 s ^^^ crc8 t

/-- 40 R105 (c): a span followed by one byte has CRC 0x00 exactly when that byte is the CRC of the span; so the comparison
form of DECODE and the residue form agree. -/
def Obligations.CrcResidueForm : Prop :=
  ∀ (s : List Byte) (c : Byte), crc8 (s ++ [c]) = 0 ↔ c = crc8 s

/-- 40 R106: a CRC-correct record (the span with its CRC byte, whose CRC is 0x00) hit by an error burst of at most eight
bits, at any bit position, is no longer CRC-correct. m is the burst, j its shift within two neighbouring bytes. -/
def Obligations.CrcDetectsBursts : Prop :=
  ∀ (front back : List Byte) (x y m : Byte) (j : Nat), m ≠ 0 → j ≤ 8 →
    crc8 (front ++ x :: y :: back) = 0 →
    crc8 (front ++ (x ^^^ (m.setWidth 16 <<< j).extractLsb' 8 8) ::
      (y ^^^ (m.setWidth 16 <<< j).extractLsb' 0 8) :: back) ≠ 0

/-- 40 section 3, 70 section 3 (the spec marks it as derived): two flipped bits 127 positions apart, or 254 apart, at any
bit position, leave the CRC of any span as it was. The first bit is bit b of its byte; the second lies in the bytes y, z:
shifting a bit up by one (two) undoes one (two) of 16 (32) bytes of distance. The clauses without z are the pairs whose
second bit is bit 0 of y (127 apart), or bit 0 or 1 of y (254 apart): there y may be the last byte of the span. -/
def Obligations.CrcMissesDoubleErrors : Prop :=
  ∀ (front mid back : List Byte) (x y z : Byte) (b : Fin 8),
    let bit : Byte := 1#8 <<< b.val
    let second (shift : Nat) : BitVec 16 := bit.setWidth 16 <<< shift
    (mid.length = 14 →
      crc8 (front ++ (x ^^^ 0x80#8) :: (mid ++ (y ^^^ 0x01#8) :: back)) = crc8 (front ++ x :: (mid ++ y :: back)) ∧
      crc8 (front ++ (x ^^^ bit) ::
          (mid ++ (y ^^^ (second 1).extractLsb' 8 8) :: (z ^^^ (second 1).extractLsb' 0 8) :: back)) =
        crc8 (front ++ x :: (mid ++ y :: z :: back))) ∧
    (mid.length = 30 →
      crc8 (front ++ (x ^^^ 0x40#8) :: (mid ++ (y ^^^ 0x01#8) :: back)) = crc8 (front ++ x :: (mid ++ y :: back)) ∧
      crc8 (front ++ (x ^^^ 0x80#8) :: (mid ++ (y ^^^ 0x02#8) :: back)) = crc8 (front ++ x :: (mid ++ y :: back)) ∧
      crc8 (front ++ (x ^^^ bit) ::
          (mid ++ (y ^^^ (second 2).extractLsb' 8 8) :: (z ^^^ (second 2).extractLsb' 0 8) :: back)) =
        crc8 (front ++ x :: (mid ++ y :: z :: back)))

/-! ### The codec -/

/-- 41 R112: ENCODE fills txbuf with the frame and returns it, changing nothing else; while a SEND is in progress it is
refused (60 R204, the spec's decision D14). That it is refused also when the answer of the ChanWrite is ready and the TX unit
has not taken it is the model's choice (log 10): R204 does not name that moment. That txbuf still holds the frame when ENCODE
has ended is the model's choice (log 27): the rules call the buffer dead then. -/
def Obligations.EncodeCompletes : Prop :=
  ∀ (ir : Vector U16 16) (us : Vector U16 4) (timestamp : U32) (sequence : Byte) (s : State),
    (s.sending = false → exec (.encode ir us timestamp sequence) s =
      .next { s with
        txbuf := encodeFrame ir us timestamp sequence
        outputs := s.outputs ++ [.result (.encode (encodeFrame ir us timestamp sequence))] }) ∧
    (s.sending = true → exec (.encode ir us timestamp sequence) s = .refused .senderBusy)

/-- 30 R71, R72 and 41 R112: every byte of the frame ENCODE builds, by frame offset. -/
def Obligations.EncodedFrameLayout : Prop :=
  ∀ (ir : Vector U16 16) (us : Vector U16 4) (timestamp : U32) (sequence : Byte),
    let f := encodeFrame ir us timestamp sequence
    f[0] = 0xAA#8 ∧
    (∀ i : Fin 16, f[2 * i.val + 1] = ir[i].extractLsb' 0 8 ∧ f[2 * i.val + 2] = ir[i].extractLsb' 8 8) ∧
    (∀ j : Fin 4, f[33 + 2 * j.val] = us[j].extractLsb' 0 8 ∧ f[34 + 2 * j.val] = us[j].extractLsb' 8 8) ∧
    f[41] = timestamp.extractLsb' 0 8 ∧ f[42] = timestamp.extractLsb' 8 8 ∧
    f[43] = timestamp.extractLsb' 16 8 ∧ f[44] = timestamp.extractLsb' 24 8 ∧
    f[45] = sequence ∧ f[46] = crc8 ((f.toList.drop 1).take 45) ∧ f[47] = 0x55#8

/-- 41 R115: DECODE checks the header, then the footer, then the CRC, and reports only the first defect in that order; a
frame without a defect gives a record. Nothing else changes. -/
def Obligations.DecodeChecksInOrder : Prop :=
  ∀ (f : Vector Byte 48) (s : State), ∃ d : DecodeResult,
    exec (.decode f) s = .next { s with outputs := s.outputs ++ [.result (.decode d)] } ∧
    (f[0] ≠ 0xAA#8 → d = .badHeader) ∧
    (f[0] = 0xAA#8 → f[47] ≠ 0x55#8 → d = .badFooter) ∧
    (f[0] = 0xAA#8 → f[47] = 0x55#8 → crc8 ((f.toList.drop 1).take 45) ≠ f[46] → d = .checksumMismatch) ∧
    (f[0] = 0xAA#8 → f[47] = 0x55#8 → crc8 ((f.toList.drop 1).take 45) = f[46] → ∃ r : Record, d = .ok r)

/-- 41 section 3 and 30 section 2 (little-endian is the spec's decision D1): the record DECODE returns for a valid frame
has every field assembled from its bytes, the lower offset less significant. -/
def Obligations.DecodeAssemblesFields : Prop :=
  ∀ (f : Vector Byte 48) (s : State),
    f[0] = 0xAA#8 → f[47] = 0x55#8 → crc8 ((f.toList.drop 1).take 45) = f[46] →
    ∃ r : Record,
      exec (.decode f) s = .next { s with outputs := s.outputs ++ [.result (.decode (.ok r))] } ∧
      (∀ i : Fin 16, r.ir[i].toNat = f[2 * i.val + 1].toNat + 256 * f[2 * i.val + 2].toNat) ∧
      (∀ j : Fin 4, r.us[j].toNat = f[33 + 2 * j.val].toNat + 256 * f[34 + 2 * j.val].toNat) ∧
      r.timestamp.toNat = f[41].toNat + 256 * f[42].toNat + 65536 * f[43].toNat + 16777216 * f[44].toNat ∧
      r.sequence = f[45] ∧ r.crc = f[46]

/-- 41 R118: decoding an encoded record gives it back, with the CRC of its body. -/
def Obligations.DecodeEncodeRoundTrip : Prop :=
  ∀ (ir : Vector U16 16) (us : Vector U16 4) (timestamp : U32) (sequence : Byte) (s : State),
    exec (.decode (encodeFrame ir us timestamp sequence)) s =
      .next { s with outputs := s.outputs ++
        [.result (.decode (.ok ⟨ir, us, timestamp, sequence, crc8 (body ir us timestamp sequence)⟩))] }

/-- 41 R119: flipping any single bit of an encoded frame is detected: BadHeader at offset 0, BadFooter at offset 47,
ChecksumMismatch anywhere in the record region; never a false Ok. -/
def Obligations.SingleBitFlipDetected : Prop :=
  ∀ (ir : Vector U16 16) (us : Vector U16 4) (timestamp : U32) (sequence : Byte) (k : Fin 48) (b : Fin 8) (s : State),
    let f := encodeFrame ir us timestamp sequence
    exec (.decode (f.set k (f[k] ^^^ (1#8 <<< b.val)))) s =
      .next { s with outputs := s.outputs ++
        [.result (.decode (if k.val = 0 then .badHeader else if k.val = 47 then .badFooter else .checksumMismatch))] }

/-! ### The sender -/

/-- 42 R133, R127 to R131: a SEND that passes its checks, for either answer of the transmit primitive: one clock read, the
sequence number carried and then incremented whatever the answer, the frame in txbuf handed over in one call, and the
result; nothing else changes. The timestamp may be a free value (log 4), and so is the dead buffer after a failed transmit
(log 27): the statement holds for each. That txbuf still holds the frame after a transmit that succeeded is the model's
choice (log 27): the rules call the buffer dead then. -/
def Obligations.SendCompletes : Prop :=
  ∀ (ir : Vector U16 16) (us : Vector U16 4) (s : State) (a : WriteAnswer) (rest : List WriteAnswer),
    s.sending = false → s.configured = true → s.env.writeAnswers = a :: rest →
    let frame := encodeFrame ir us s.nowAnswer s.txSeq
    let t : State := { s with
      txSeq := s.txSeq + 1
      txbuf := frame
      clockReads := s.clockReads + 1
      env := { s.env with clock := s.env.clock.tail, writeAnswers := rest }
      outputs := s.outputs ++ [.now s.nowAnswer, .chanWrite frame Config.tTxMs] }
    exec (.send ir us true) s =
      match a with
      | .ok => .next { t with outputs := t.outputs ++ [.result (.send true)] }
      | .fail =>
        .next { t with
          txbuf := Config.freeBuffer s.deadBuffers
          deadBuffers := s.deadBuffers + 1
          outputs := t.outputs ++ [.event .linkFault, .result (.send false)] }

/-- 42 R126 (the order and the absence of effects are the spec's decision D11): without a channel, else without readings,
SEND returns false and only the event and the result are handed out. That txbuf keeps its bytes is log 27's choice. -/
def Obligations.SendPreconditionFailures : Prop :=
  ∀ (ir : Vector U16 16) (us : Vector U16 4) (rdv : Bool) (s : State), s.sending = false →
    (s.configured = false → exec (.send ir us rdv) s =
      .next { s with outputs := s.outputs ++ [.event .channelUnconfigured, .result (.send false)] }) ∧
    (s.configured = true → exec (.send ir us false) s =
      .next { s with outputs := s.outputs ++ [.event .invalidInput, .result (.send false)] })

/-- 60 R204, 44 R180, 41 R112 (decision D14): a SEND whose ChanWrite has no answer yet stays in progress, its sequence
number already consumed (42 R130); meanwhile SEND, ENCODE, CONFIGURE and SET_CONSUMER are refused; the answer, once the TX
unit takes it (that it is not ended before is the model's choice, log 10), ends it: ok with true, fail with the event
LinkFault and false, the buffer dead (a free value, log 27), and neither changes tx_seq or a statistic (42 R130, R131). That
txbuf still holds the frame after ok is the model's choice (log 27): the rules call the buffer dead then. -/
def Obligations.SendWaitsForItsAnswer : Prop :=
  ∀ (ir : Vector U16 16) (us : Vector U16 4) (s : State),
    s.sending = false → s.configured = true → s.env.writeAnswers = [] →
    ∃ t, exec (.send ir us true) s = .next t ∧ t.sending = true ∧ t.txSeq = s.txSeq + 1 ∧ t.stats = s.stats ∧
      (∀ ir' us' rdv, exec (.send ir' us' rdv) t = .refused .senderBusy) ∧
      (∀ ir' us' timestamp sequence, exec (.encode ir' us' timestamp sequence) t = .refused .senderBusy) ∧
      (∀ b, exec (.configure b) t = .refused .operationInProgress) ∧
      (∀ b, exec (.setConsumer b) t = .refused .operationInProgress) ∧
      ∀ rest,
        Host.Core.run Sys2Proof.core 2
            { t with env := { t.env with inputs := .writeAnswer .ok :: .senderProceeds :: rest } } =
          .next { t with
            sending := false
            env := { t.env with inputs := rest }
            outputs := t.outputs ++ [.result (.send true)] } ∧
        Host.Core.run Sys2Proof.core 2
            { t with env := { t.env with inputs := .writeAnswer .fail :: .senderProceeds :: rest } } =
          .next { t with
            sending := false
            txbuf := Config.freeBuffer t.deadBuffers
            deadBuffers := t.deadBuffers + 1
            env := { t.env with inputs := rest }
            outputs := t.outputs ++ [.event .linkFault, .result (.send false)] }

/-- 42 R133: SEND reads and writes no Receiver state: replacing the receiver part before or after it is the same. -/
def Obligations.SendIgnoresReceiver : Prop :=
  ∀ (ir : Vector U16 16) (us : Vector U16 4) (rdv : Bool) (s : State) (p : ReceiverPart),
    exec (.send ir us rdv) (s.withReceiver p) = Answer.withReceiver (exec (.send ir us rdv) s) p

/-! ### The receiver -/

/-- 43 R142 (decisions D10, D14): while an attempt is in progress TRY_RECEIVE and POLL are refused; from Idle without a
channel the attempt ends at once with NoData, no read issued and no counter changed. That the event is recorded is log 13,
that rxbuf keeps its bytes log 27's choice. -/
def Obligations.AttemptNeedsIdleAndChannel : Prop :=
  ∀ (i : Instr) (timeoutMs : U32) (s : State), attemptBudget i = some timeoutMs →
    (s.rxState ≠ .idle → exec i s = .refused .receiverBusy) ∧
    (s.rxState = .idle → s.configured = false → exec i s =
      .next { s with
        stage := .checking
        pollAttempt := false
        outputs := s.outputs ++ [.event .channelUnconfigured] ++ returned i .noData })

/-- 43 R143, R144: the header wait. A timeout is counted, a fault and a byte that is not 0xAA are not; each ends the attempt
with NoData, and what was read is consumed. The dead receive buffer holds a free value (log 27): the statement holds for
each. -/
def Obligations.AttemptEndsInHeaderWait : Prop :=
  ∀ (i : Instr) (timeoutMs : U32) (s : State) (a : ReadAnswer 1) (line : List LineItem),
    attemptBudget i = some timeoutMs → s.rxState = .idle → s.configured = true →
    chanRead 1 s.env.rxLine = some (a, line) →
    match a with
    | .timeout => exec i s =
        .next { s with
          stats := { s.stats with timeouts := s.stats.timeouts + 1 }
          rxbuf := Config.freeBuffer s.deadBuffers
          deadBuffers := s.deadBuffers + 1
          stage := .checking
          pollAttempt := false
          env := { s.env with rxLine := line }
          outputs := s.outputs ++ [.chanRead 1 timeoutMs, .event .timeout] ++ returned i .noData }
    | .fault => exec i s =
        .next { s with
          rxbuf := Config.freeBuffer s.deadBuffers
          deadBuffers := s.deadBuffers + 1
          stage := .checking
          pollAttempt := false
          env := { s.env with rxLine := line }
          outputs := s.outputs ++ [.chanRead 1 timeoutMs, .event .linkFault] ++ returned i .noData }
    | .bytes h => h[0] ≠ 0xAA#8 → exec i s =
        .next { s with
          rxbuf := Config.freeBuffer s.deadBuffers
          deadBuffers := s.deadBuffers + 1
          stage := .checking
          pollAttempt := false
          env := { s.env with rxLine := line }
          outputs := s.outputs ++ [.chanRead 1 timeoutMs, .event (.frameSyncFailure .header)] ++ returned i .noData }

/-- 43 R145: the body wait after a matching header byte: a timeout is counted, a fault is not, both end the attempt. The
budget is T_BODY_MS, not the operand. The dead receive buffer holds a free value (log 27). -/
def Obligations.AttemptEndsInBodyWait : Prop :=
  ∀ (i : Instr) (timeoutMs : U32) (s : State) (h : Vector Byte 1) (line line' : List LineItem),
    attemptBudget i = some timeoutMs → s.rxState = .idle → s.configured = true →
    chanRead 1 s.env.rxLine = some (.bytes h, line) → h[0] = 0xAA#8 →
    (chanRead 47 line = some (.timeout, line') → exec i s =
      .next { s with
        rxbuf := Config.freeBuffer s.deadBuffers
        deadBuffers := s.deadBuffers + 1
        stats := { s.stats with timeouts := s.stats.timeouts + 1 }
        stage := .checking
        pollAttempt := false
        env := { s.env with rxLine := line' }
        outputs := s.outputs ++ [.chanRead 1 timeoutMs, .chanRead 47 Config.tBodyMs, .event .timeout] ++
          returned i .noData }) ∧
    (chanRead 47 line = some (.fault, line') → exec i s =
      .next { s with
        rxbuf := Config.freeBuffer s.deadBuffers
        deadBuffers := s.deadBuffers + 1
        stage := .checking
        pollAttempt := false
        env := { s.env with rxLine := line' }
        outputs := s.outputs ++ [.chanRead 1 timeoutMs, .chanRead 47 Config.tBodyMs, .event .linkFault] ++
          returned i .noData })

/-- 43 R146, R147: all 48 bytes are there; a wrong footer is not counted, a wrong CRC under a right footer adds one to
crc_errors; each ends the attempt with NoData and leaves the cursor and the other statistics. The dead receive buffer holds
a free value (log 27). -/
def Obligations.AttemptEndsInValidation : Prop :=
  ∀ (i : Instr) (timeoutMs : U32) (s : State) (h : Vector Byte 1) (v : Vector Byte 47) (line line' : List LineItem),
    attemptBudget i = some timeoutMs → s.rxState = .idle → s.configured = true →
    chanRead 1 s.env.rxLine = some (.bytes h, line) → h[0] = 0xAA#8 → chanRead 47 line = some (.bytes v, line') →
    (v[46] ≠ 0x55#8 → exec i s =
      .next { s with
        rxbuf := Config.freeBuffer s.deadBuffers
        deadBuffers := s.deadBuffers + 1
        stage := .checking
        pollAttempt := false
        env := { s.env with rxLine := line' }
        outputs := s.outputs ++
          [.chanRead 1 timeoutMs, .chanRead 47 Config.tBodyMs, .event (.frameSyncFailure .footer)] ++
          returned i .noData }) ∧
    (v[46] = 0x55#8 → crc8 (v.toList.take 45) ≠ v[45] → exec i s =
      .next { s with
        rxbuf := Config.freeBuffer s.deadBuffers
        deadBuffers := s.deadBuffers + 1
        stats := { s.stats with crcErrors := s.stats.crcErrors + 1 }
        stage := .checking
        pollAttempt := false
        env := { s.env with rxLine := line' }
        outputs := s.outputs ++
          [.chanRead 1 timeoutMs, .chanRead 47 Config.tBodyMs, .event .checksumMismatch] ++
          returned i .noData })

/-- 43 R148 to R153, R162: the accepted frame. Loss by the formula of R148, cursor one past the frame, one more received,
the latency smoothed, one clock read (the spec's decisions D3 for the smoothing, D4 for the clock); with a consumer one
delivery (D13), after which the attempt waits for the consumer's return; at the end DataReceived. Nothing else changes. That
rxbuf still holds the frame when the attempt has ended is the model's choice (log 27): the rules call the buffer dead
then. -/
def Obligations.AttemptAcceptsFrame : Prop :=
  ∀ (i : Instr) (timeoutMs : U32) (s : State) (h : Vector Byte 1) (v : Vector Byte 47) (line line' : List LineItem),
    attemptBudget i = some timeoutMs → s.rxState = .idle → s.configured = true →
    chanRead 1 s.env.rxLine = some (.bytes h, line) → h[0] = 0xAA#8 → chanRead 47 line = some (.bytes v, line') →
    v[46] = 0x55#8 → crc8 (v.toList.take 45) = v[45] →
    ∃ r : Record, decodeFrame (received v) = .ok r ∧ r.sequence = v[44] ∧ r.crc = v[45] ∧
      let k := (r.sequence - s.expectedSeq).toNat
      let t : State := { s with
        rxbuf := received v
        expectedSeq := r.sequence + 1
        stats := { s.stats with
          packetsLost := s.stats.packetsLost + BitVec.ofNat 32 (if 1 < k then k - 1 else 0)
          packetsReceived := s.stats.packetsReceived + 1
          avgLatency := BitVec.ofNat 48
            ((9 * s.stats.avgLatency.toNat + 65536 * (s.nowAnswer - r.timestamp).toNat) / 10) }
        clockReads := s.clockReads + 1
        stage := .checking
        pollAttempt := false
        env := { s.env with clock := s.env.clock.tail, rxLine := line' }
        outputs := s.outputs ++ [.chanRead 1 timeoutMs, .chanRead 47 Config.tBodyMs, .now s.nowAnswer] }
      (s.consumerEn = false → exec i s =
        .next { t with outputs := t.outputs ++ returned i .dataReceived }) ∧
      (∀ n, s.consumerEn = true → s.env.consumerReturns = n + 1 → exec i s =
        .next { t with
          env := { t.env with consumerReturns := n }
          outputs := t.outputs ++ [.deliver r] ++ returned i .dataReceived }) ∧
      (s.consumerEn = true → s.env.consumerReturns = 0 → exec i s =
        .next { t with
          rxState := .validating
          stage := .delivering
          pollAttempt := decide (i = .poll)
          outputs := t.outputs ++ [.deliver r] })

/-- An attempt whose answer is not there yet waits in the state of its read (43 R140), with that read requested. -/
def Obligations.AttemptWaitsForItsAnswer : Prop :=
  ∀ (i : Instr) (timeoutMs : U32) (s : State),
    attemptBudget i = some timeoutMs → s.rxState = .idle → s.configured = true →
    (chanRead 1 s.env.rxLine = none → exec i s =
      .next { s with
        rxState := .awaitingHeader
        stage := .checking
        pollAttempt := decide (i = .poll)
        outputs := s.outputs ++ [.chanRead 1 timeoutMs] }) ∧
    (∀ (h : Vector Byte 1) (line : List LineItem), chanRead 1 s.env.rxLine = some (.bytes h, line) → h[0] = 0xAA#8 →
      chanRead 47 line = none → exec i s =
        .next { s with
          rxState := .awaitingFooter
          rxbuf := s.rxbuf.set 0 0xAA#8
          stage := .checking
          pollAttempt := decide (i = .poll)
          env := { s.env with rxLine := line }
          outputs := s.outputs ++ [.chanRead 1 timeoutMs, .chanRead 47 Config.tBodyMs] })

/-- 43 R157: POLL is TRY_RECEIVE with a zero timeout, its result discarded: from Idle both go to the same state but for the
result, which TRY_RECEIVE hands out at the end of the attempt and POLL does not. -/
def Obligations.PollIsZeroTimeoutAttempt : Prop :=
  ∀ s : State, s.rxState = .idle →
    ∃ t u : State, exec (.tryReceive 0) s = .next t ∧ exec .poll s = .next u ∧
      { u with pollAttempt := false, outputs := [] } = { t with pollAttempt := false, outputs := [] } ∧
      (if t.rxState = .idle then ∃ r, t.outputs = u.outputs ++ [.result (.tryReceive r)] else t.outputs = u.outputs)

/-- 43 R155: the table, row by row: the answer or the buffer's contents that fire the row, the counter it writes, the event and
the result it hands out, and that it changes nothing else; the row of an issued attempt; the row of the refused one. So
nothing leads from AwaitingFooter or Validating back to AwaitingHeader, and the Receiver stays where it is only while its
answer is not there. The accepting row is in the four parts that 20 R62 (c) and 43 R152, R153 separate: the clock read, the
commit, the delivery, the consumer's return (log 10, 12). A failed attempt's buffer is dead, a free value (log 27); that an
accepted one's keeps the frame is the model's choice (log 27). The smoothing is the spec's decision D3, the delivery D13. The
row of an attempt without a channel is AttemptNeedsIdleAndChannel. -/
def Obligations.ReceiverTransitionTable : Prop :=
  ∀ s : State,
    let returns (r : Receipt) : List Output := if s.pollAttempt then [] else [.result (.tryReceive r)]
    let failed (line : List LineItem) (stats : LinkStats) (e : Event) : State := { s with
      rxState := .idle
      stats := stats
      rxbuf := Config.freeBuffer s.deadBuffers
      deadBuffers := s.deadBuffers + 1
      stage := .checking
      pollAttempt := false
      env := { s.env with rxLine := line }
      outputs := s.outputs ++ [.event e] ++ returns .noData }
    let accepted (consumerReturns : Nat) : State := { s with
      rxState := .idle
      stage := .checking
      pollAttempt := false
      env := { s.env with consumerReturns := consumerReturns }
      outputs := s.outputs ++ returns .dataReceived }
    let timedOut : LinkStats := { s.stats with timeouts := s.stats.timeouts + 1 }
    let r := recordOfFrame s.rxbuf
    let k := (r.sequence - s.expectedSeq).toNat
    (∀ (i : Instr) (timeoutMs : U32), attemptBudget i = some timeoutMs →
      (s.rxState = .idle → s.configured = true → exec i s =
        .next (rxAdvance^[6] { s with
          rxState := .awaitingHeader
          stage := .checking
          pollAttempt := decide (i = .poll)
          outputs := s.outputs ++ [.chanRead 1 timeoutMs] })) ∧
      (s.rxState ≠ .idle → exec i s = .refused .receiverBusy)) ∧
    match s.rxState with
    | .idle => rxAdvance s = s
    | .awaitingHeader =>
      match chanRead 1 s.env.rxLine with
      | none => rxAdvance s = s
      | some (.timeout, line) => rxAdvance s = failed line timedOut .timeout
      | some (.fault, line) => rxAdvance s = failed line s.stats .linkFault
      | some (.bytes h, line) =>
        if h[0] = 0xAA#8 then
          rxAdvance s = { s with
            rxState := .awaitingFooter
            rxbuf := s.rxbuf.set 0 0xAA#8
            env := { s.env with rxLine := line }
            outputs := s.outputs ++ [.chanRead 47 Config.tBodyMs] }
        else rxAdvance s = failed line s.stats (.frameSyncFailure .header)
    | .awaitingFooter =>
      match chanRead 47 s.env.rxLine with
      | none => rxAdvance s = s
      | some (.timeout, line) => rxAdvance s = failed line timedOut .timeout
      | some (.fault, line) => rxAdvance s = failed line s.stats .linkFault
      | some (.bytes v, line) =>
        rxAdvance s = { s with
          rxState := .validating
          rxbuf := (#v[s.rxbuf[0]] ++ v : Vector Byte (1 + 47))
          env := { s.env with rxLine := line } }
    | .validating =>
      match s.stage with
      | .checking =>
        s.rxbuf[0] = 0xAA#8 →
          if s.rxbuf[47] ≠ 0x55#8 then rxAdvance s = failed s.env.rxLine s.stats (.frameSyncFailure .footer)
          else if crc8 ((s.rxbuf.toList.drop 1).take 45) ≠ s.rxbuf[46] then
            rxAdvance s =
              failed s.env.rxLine { s.stats with crcErrors := s.stats.crcErrors + 1 } .checksumMismatch
          else
            rxAdvance s = { s with
              stage := .timed s.nowAnswer
              clockReads := s.clockReads + 1
              env := { s.env with clock := s.env.clock.tail }
              outputs := s.outputs ++ [.now s.nowAnswer] }
      | .timed now =>
        rxAdvance s = { s with
          stage := .committed
          expectedSeq := r.sequence + 1
          stats := { s.stats with
            packetsLost := s.stats.packetsLost + BitVec.ofNat 32 (if 1 < k then k - 1 else 0)
            packetsReceived := s.stats.packetsReceived + 1
            avgLatency := BitVec.ofNat 48 ((9 * s.stats.avgLatency.toNat + 65536 * (now - r.timestamp).toNat) / 10) } }
      | .committed =>
        if s.consumerEn then rxAdvance s = { s with stage := .delivering, outputs := s.outputs ++ [.deliver r] }
        else rxAdvance s = accepted s.env.consumerReturns
      | .delivering =>
        match s.env.consumerReturns with
        | 0 => rxAdvance s = s
        | n + 1 => rxAdvance s = accepted n

/-- 60 section 1 (the spec marks it as derived): an attempt raises at most one event: neither the step that begins it nor a
transition of an attempt in progress raises more than one, and a transition that raises one ends the attempt, so none follows
it. -/
def Obligations.AttemptRaisesAtMostOneEvent : Prop :=
  (∀ (i : Instr) (timeoutMs : U32) (s t : State), attemptBudget i = some timeoutMs → exec i s = .next t →
    ∃ new, t.outputs = s.outputs ++ new ∧ new.countP Output.isEvent ≤ 1 ∧
      (new.countP Output.isEvent = 1 → t.rxState = .idle)) ∧
  ∀ s : State, ∃ new, (rxAdvance s).outputs = s.outputs ++ new ∧ new.countP Output.isEvent ≤ 1 ∧
    (new.countP Output.isEvent = 1 → (rxAdvance s).rxState = .idle)

/-- 60 R193: a header or footer mismatch changes no statistic at all, neither in the step that begins the attempt nor in a
transition of an attempt in progress: there is no sync-error counter, and crc_errors and timeouts do not move. -/
def Obligations.SyncFailuresAreNotCounted : Prop :=
  (∀ (i : Instr) (timeoutMs : U32) (s t : State) (d : Delimiter) (new : List Output),
    attemptBudget i = some timeoutMs → exec i s = .next t → t.outputs = s.outputs ++ new →
    .event (.frameSyncFailure d) ∈ new → t.stats = s.stats ∧ t.expectedSeq = s.expectedSeq) ∧
  ∀ (s : State) (d : Delimiter) (new : List Output), (rxAdvance s).outputs = s.outputs ++ new →
    .event (.frameSyncFailure d) ∈ new →
    (rxAdvance s).stats = s.stats ∧ (rxAdvance s).expectedSeq = s.expectedSeq ∧ (rxAdvance s).rxState = .idle

/-- 43 R148, R149: whatever its sequence number, a structurally valid frame that an attempt reads sets the cursor to one
past it and adds seq_diff - 1 to packets_lost if seq_diff > 1, nothing otherwise; seq_diff is the 8-bit difference from the
cursor as it was before. -/
def Obligations.ValidFrameMovesTheCursor : Prop :=
  ∀ (i : Instr) (timeoutMs : U32) (s : State) (f : Vector Byte 48) (rest : List LineItem),
    attemptBudget i = some timeoutMs → s.rxState = .idle → s.configured = true →
    s.env.rxLine = f.toList.map .byte ++ rest →
    f[0] = 0xAA#8 → f[47] = 0x55#8 → crc8 ((f.toList.drop 1).take 45) = f[46] →
    ∃ t, exec i s = .next t ∧ t.env.rxLine = rest ∧ t.expectedSeq = f[45] + 1 ∧
      let seqDiff : Byte := f[45] - s.expectedSeq
      (1 < seqDiff.toNat → t.stats.packetsLost = s.stats.packetsLost + (seqDiff.setWidth 32 - 1)) ∧
      (seqDiff.toNat ≤ 1 → t.stats.packetsLost = s.stats.packetsLost)

/-- 43 section 6 (the spec marks it as derived): a frame k places past the cursor adds k - 1 to packets_lost, nothing for
k = 0 and k = 1, whatever the cursor; the same frame once more adds 254. -/
def Obligations.LossByGap : Prop :=
  ∀ (s : State) (r : Record) (now : U32) (k : Nat), k < 256 → r.sequence = s.expectedSeq + BitVec.ofNat 8 k →
    (commit r now s).stats.packetsLost = s.stats.packetsLost + BitVec.ofNat 32 (k - 1) ∧
    (commit r now s).expectedSeq = s.expectedSeq + BitVec.ofNat 8 (k + 1) ∧
    ∀ now', (commit r now' (commit r now s)).stats.packetsLost = (commit r now s).stats.packetsLost + 254

/-- 43 R151: the smoothed latency is the rounded-down weighted sum with no overflow, is 0 from 0 and 0, and lies between the
smaller of its two inputs less one and the larger. -/
def Obligations.SmoothedLatencyBounds : Prop :=
  ∀ (a : U48) (l : U32),
    (ewma a l).toNat = (9 * a.toNat + 65536 * l.toNat) / 10 ∧ ewma 0 0 = 0 ∧
    min a.toNat (65536 * l.toNat) ≤ (ewma a l).toNat + 1 ∧ (ewma a l).toNat ≤ max a.toNat (65536 * l.toNat)

/-- 70 R231: a stray 0xAA in front of a frame costs the frame: the attempt takes 48 bytes, finds the frame's CRC byte where
the footer should be, and leaves only the frame's last byte, with no counter changed. -/
def Obligations.FalseHeaderCostsTheFrame : Prop :=
  ∀ (i : Instr) (timeoutMs : U32) (s : State) (r : Record) (rest : List LineItem),
    attemptBudget i = some timeoutMs → s.rxState = .idle → s.configured = true → r.crc ≠ 0x55#8 →
    s.env.rxLine = .byte 0xAA#8 :: (frameOfRecord r).toList.map .byte ++ rest →
    ∃ t, exec i s = .next t ∧ t.rxState = .idle ∧ t.env.rxLine = .byte 0x55#8 :: rest ∧ t.stats = s.stats ∧
      t.expectedSeq = s.expectedSeq ∧
      t.outputs = s.outputs ++
        [.chanRead 1 timeoutMs, .chanRead 47 Config.tBodyMs, .event (.frameSyncFailure .footer)] ++ returned i .noData

/-- 44 R175: a RESET_STATS that falls between the header and the body of an attempt leaves the attempt in progress, and what
it commits afterwards is computed on the zeroed registers. -/
def Obligations.ResetStatsDuringAttempt : Prop :=
  ∀ (s : State) (v : Vector Byte 47) (p : Ports) (line : List LineItem) (rest : List Input),
    s.rxState = .awaitingFooter → s.rxbuf[0] = 0xAA#8 → s.stage = .checking → s.consumerEn = false →
    chanRead 47 s.env.rxLine = some (.bytes v, line) → v[46] = 0x55#8 → crc8 (v.toList.take 45) = v[45] →
    s.env.inputs = .present (.command 0x09#8 p) :: (List.replicate 4 .receiverProceeds ++ rest) →
    ∃ t, Host.Core.run Sys2Proof.core 5 s = .next t ∧ t.rxState = .idle ∧ t.stats.packetsReceived = 1 ∧
      t.stats.packetsLost = BitVec.ofNat 32 (v[44].toNat - 1) ∧ t.stats.crcErrors = 0 ∧ t.stats.timeouts = 0 ∧
      t.expectedSeq = v[44] + 1 ∧ t.env.inputs = rest

/-- 60 R202, R204 (decision D14): while the consumer handles a record and no SEND is in progress, GET_STATS, RESET_STATS,
CRC8, DECODE, ENCODE and SEND run; TRY_RECEIVE, POLL, CONFIGURE and SET_CONSUMER are refused; and the snapshot shows the
registers as the commit left them (20 R63). -/
def Obligations.OperationsDuringDelivery : Prop :=
  ∀ s : State, s.rxState = .validating → s.stage = .delivering → s.sending = false →
    exec .getStats s = .next { s with outputs := s.outputs ++ [.result (.getStats s.stats)] } ∧
    (∃ t, exec .resetStats s = .next t ∧ t.rxState = .validating ∧ t.stage = .delivering) ∧
    (∀ span, ∃ t, exec (.crc8 span) s = .next t) ∧ (∀ f, ∃ t, exec (.decode f) s = .next t) ∧
    (∀ ir us timestamp sequence, ∃ t, exec (.encode ir us timestamp sequence) s = .next t) ∧
    (∀ ir us rdv, ∃ t, exec (.send ir us rdv) s = .next t) ∧
    (∀ timeoutMs, exec (.tryReceive timeoutMs) s = .refused .receiverBusy) ∧ exec .poll s = .refused .receiverBusy ∧
    (∀ b, exec (.configure b) s = .refused .operationInProgress) ∧
    ∀ b, exec (.setConsumer b) s = .refused .operationInProgress

/-! ### Statistics, configuration, the link -/

/-- 44 R171: GET_STATS (command word 0x08) returns the five statistics in any state and changes nothing; so a second one
returns the same snapshot; after reset it is (0, 0, 0, 0, 0). -/
def Obligations.GetStatsCompletes : Prop :=
  ∀ (s : State) (p : Ports),
    decode (.command 0x08#8 p) = .ok .getStats ∧
    exec .getStats s = .next { s with outputs := s.outputs ++ [.result (.getStats
      ⟨s.stats.packetsReceived, s.stats.packetsLost, s.stats.crcErrors, s.stats.timeouts, s.stats.avgLatency⟩)] } ∧
    exec .getStats State.reset = .next { State.reset with outputs := [.result (.getStats ⟨0, 0, 0, 0, 0⟩)] }

/-- 44 R173: RESET_STATS (command word 0x09) zeroes the five statistics and the cursor in any state, in one step, and
touches nothing else; it has no result. -/
def Obligations.ResetStatsCompletes : Prop :=
  ∀ (s : State) (p : Ports),
    decode (.command 0x09#8 p) = .ok .resetStats ∧
    exec .resetStats s = .next { s with stats := ⟨0, 0, 0, 0, 0⟩, expectedSeq := 0 }

/-- 44 R176, R178, R180 (decisions D12, D14): CONFIGURE and SET_CONSUMER write their one bit, and are refused while an
attempt or a SEND is in progress. That a SEND whose answer is ready and not taken by the TX unit still counts as in
progress is the model's choice (log 10): R180 does not name that moment. -/
def Obligations.ConfigurationCompletes : Prop :=
  ∀ (b : Bool) (s : State),
    (s.rxState = .idle → s.sending = false →
      exec (.configure b) s = .next { s with configured := b } ∧
      exec (.setConsumer b) s = .next { s with consumerEn := b }) ∧
    (s.rxState ≠ .idle ∨ s.sending = true →
      exec (.configure b) s = .refused .operationInProgress ∧
      exec (.setConsumer b) s = .refused .operationInProgress)

/-- 30 R70: a frame is 48 bytes: offset 0 is 0xAA, offsets 1 to 46 are the record's 46 bytes, offset 47 is 0x55; that is
also what ENCODE builds. -/
def Obligations.FrameIsHeaderRecordFooter : Prop :=
  (∀ r : Record, (recordBytes r).length = 46 ∧
    (frameOfRecord r).toList = [0xAA#8] ++ recordBytes r ++ [0x55#8] ∧
    ∀ k : Fin 46, (frameOfRecord r)[k.val + 1]? = (recordBytes r)[k.val]?) ∧
  ∀ (ir : Vector U16 16) (us : Vector U16 4) (timestamp : U32) (sequence : Byte),
    ∃ r : Record, (encodeFrame ir us timestamp sequence).toList = [0xAA#8] ++ recordBytes r ++ [0x55#8]

/-- The FRAME row (its meaning is the model's, log 6): the 48 bytes header, record, footer become available to the receive
primitive behind what is there; the block itself does not change (20 section 9). At the link any 48 bytes do so in one step,
whether or not they are a valid frame (the model's, log 26): an invalid one is rejected by the attempt that reads it. -/
def Obligations.FrameArrives : Prop :=
  (∀ (r : Record) (s : State),
    exec (.frame r) s =
      .next { s with env := { s.env with rxLine := s.env.rxLine ++
        (.byte 0xAA#8 :: (recordBytes r).map .byte ++ [.byte 0x55#8]) } }) ∧
  ∀ (bytes : Vector Byte 48) (s : State) (rest : List Input), s.env.inputs = .present (.frame bytes) :: rest →
    step s = .next { s with env := { s.env with
      inputs := rest
      rxLine := s.env.rxLine ++ bytes.toList.map .byte } }

/-! ### Rules about the whole machine -/

/-- 60 sections 4 and 5, decision D14: an operation is refused exactly while what it may not overlap is in progress, and
otherwise has a next state, whatever its operands; no operation faults. So once no operation is in progress every
operation is accepted. That a SEND whose answer is ready and not taken by the TX unit is still in progress, so that
ENCODE, SEND, CONFIGURE and SET_CONSUMER are refused, is the model's choice (log 10): the rules do not name that moment. -/
def Obligations.OperationsRefusedExactlyWhenBusy : Prop :=
  ∀ (i : Instr) (s : State),
    ((∃ t, exec i s = .next t) ↔ ¬ mustWait i s) ∧ ((∃ r, exec i s = .refused r) ↔ mustWait i s)

/-- 70 R224: with no operation in progress and nothing coming from outside, the block waits: no step changes it. -/
def Obligations.IdleBlockWaits : Prop :=
  ∀ s : State, s.rxState = .idle → s.sending = false → s.env.inputs = [] →
    ∀ n, Host.Core.run Sys2Proof.core n s = .next s

/-- 10 R26: tx_seq is 0 at reset; it is written only by a SEND that passes its checks, which copies it into the record's
sequence number and adds one modulo 256. That is said of every instruction and of every step, whatever the outside world
does in it: a hardware reset sets it to 0, a step that runs such a SEND adds one, no other step changes it. -/
def Obligations.TxSeqWrittenOnlyBySend : Prop :=
  let sends (s t : State) : Prop := t.txSeq = s.txSeq + 1 ∧
    ∃ f : Vector Byte 48, f[45] = s.txSeq ∧ .chanWrite f Config.tTxMs ∈ t.outputs.drop s.outputs.length
  State.reset.txSeq = 0 ∧
  (∀ (i : Instr) (s t : State), exec i s = .next t →
    ((∃ ir us, i = .send ir us true) ∧ s.configured = true → sends s t) ∧
    (¬ ((∃ ir us, i = .send ir us true) ∧ s.configured = true) → t.txSeq = s.txSeq)) ∧
  ∀ s t : State, step s = .next t →
    (s.isReset → t.txSeq = 0) ∧
    ((∃ ir us, s.runs = some (.send ir us true)) ∧ s.configured = true → sends s t) ∧
    (¬ s.isReset → ¬ ((∃ ir us, s.runs = some (.send ir us true)) ∧ s.configured = true) → t.txSeq = s.txSeq)

/-- 42 R129, R130: whatever the transmit primitive answers, or before it has answered, a SEND that passes its checks puts
the counter's old value into the record and adds one, and the answer that comes later does not take it back; the first
frame after reset carries 0, the frame after 255 carries 0. -/
def Obligations.SendConsumesOneSequenceNumber : Prop :=
  (∀ (ir : Vector U16 16) (us : Vector U16 4) (s : State), s.sending = false → s.configured = true →
    ∃ t, exec (.send ir us true) s = .next t ∧ t.txSeq = s.txSeq + 1 ∧
      (∃ f : Vector Byte 48, .chanWrite f Config.tTxMs ∈ t.outputs.drop s.outputs.length ∧ f[45] = s.txSeq) ∧
      ∀ answers, (txAdvance { t with env := { t.env with writeAnswers := answers } }).txSeq = t.txSeq) ∧
  State.reset.txSeq = 0 ∧ (255#8 : Byte) + 1 = 0

/-- 44 R170: the statistics are zero at reset and after RESET_STATS; nothing but TRY_RECEIVE, POLL and RESET_STATS writes
them (nor the cursor, the phase and the receive buffer, but for RESET_STATS and the cursor); GET_STATS reads a copy. That is
said of every instruction and of every step: outside a hardware reset only a step that runs one of the three, or in which an
attempt that one of the first two has begun goes on, writes them. -/
def Obligations.StatisticsOwnedByReceiver : Prop :=
  State.reset.stats = ⟨0, 0, 0, 0, 0⟩ ∧
  (∀ s t : State, exec .resetStats s = .next t → t.stats = ⟨0, 0, 0, 0, 0⟩) ∧
  (∀ s t : State, exec .getStats s = .next t → t.outputs = s.outputs ++ [.result (.getStats s.stats)]) ∧
  (∀ (i : Instr) (s t : State), exec i s = .next t → attemptBudget i = none → i ≠ .resetStats →
    t.stats = s.stats ∧ t.expectedSeq = s.expectedSeq ∧ t.rxState = s.rxState ∧ t.rxbuf = s.rxbuf) ∧
  ∀ s t : State, step s = .next t →
    (s.isReset → t.stats = ⟨0, 0, 0, 0, 0⟩ ∧ t.expectedSeq = 0 ∧ t.rxState = .idle) ∧
    (s.runs = some .resetStats →
      t.stats = ⟨0, 0, 0, 0, 0⟩ ∧ t.expectedSeq = 0 ∧ t.rxState = s.rxState ∧ t.rxbuf = s.rxbuf) ∧
    (¬ s.isReset → s.runs ≠ some .resetStats → (∀ i, s.runs = some i → attemptBudget i = none) → ¬ s.attemptGoesOn →
      t.stats = s.stats ∧ t.expectedSeq = s.expectedSeq ∧ t.rxState = s.rxState ∧ t.rxbuf = s.rxbuf)

/-- 10 R33, R34: only CONFIGURE writes `configured` and only SET_CONSUMER writes `consumer_en`; said of every instruction and
of every step, with the hardware reset, which clears both (the spec's decision D9), as its own case. -/
def Obligations.ConfigurationBitsOwned : Prop :=
  (∀ (i : Instr) (s t : State), exec i s = .next t →
    (t.configured = match i with | .configure b => b | _ => s.configured) ∧
    (t.consumerEn = match i with | .setConsumer b => b | _ => s.consumerEn)) ∧
  ∀ s t : State, step s = .next t →
    (s.isReset → t.configured = false ∧ t.consumerEn = false) ∧
    (¬ s.isReset →
      (t.configured = match s.runs with | some (.configure b) => b | _ => s.configured) ∧
      (t.consumerEn = match s.runs with | some (.setConsumer b) => b | _ => s.consumerEn))

/-- 20 R57: what was handed out cannot be undone: no step takes back an output. R57 says so of the collaborator calls; that
the one list also holds results and events is the model's (log 9), and that a hardware reset leaves all of it is the model's
choice (log 16). -/
def Obligations.OutputsOnlyGrow : Prop :=
  ∀ s t : State, step s = .next t → s.outputs <+: t.outputs

/-- 20 R62 (a), R152: a step changes the statistics and the cursor only as one of the transitions of R62 (a): one timeout
counted, one CRC error counted, the whole commit of a valid frame (received, lost, cursor and latency together), or all six
at zero, which RESET_STATS and a hardware reset alone do. The commit's frame and clock answer are those the attempt has read:
either before this step, the frame in rxbuf and the answer kept since, or in this step, which then runs TRY_RECEIVE or POLL,
takes the 48 bytes from the receive primitive and reads the clock. -/
def Obligations.StatisticsChangeAtomically : Prop :=
  ∀ s t : State, Inv s → step s = .next t →
    (t.stats = s.stats ∧ t.expectedSeq = s.expectedSeq) ∨
    (t.stats = { s.stats with timeouts := s.stats.timeouts + 1 } ∧ t.expectedSeq = s.expectedSeq) ∨
    (t.stats = { s.stats with crcErrors := s.stats.crcErrors + 1 } ∧ t.expectedSeq = s.expectedSeq) ∨
    (∃ (f : Vector Byte 48) (r : Record) (now : U32), decodeFrame f = .ok r ∧
      (s.stage = .timed now ∧ f = s.rxbuf ∨
        (∃ i timeoutMs, s.runs = some i ∧ attemptBudget i = some timeoutMs) ∧
        now = s.nowAnswer ∧ .now now ∈ t.outputs.drop s.outputs.length ∧
        ∃ (h : Vector Byte 1) (v : Vector Byte 47) (line line' : List LineItem),
          chanRead 1 s.env.rxLine = some (.bytes h, line) ∧ h[0] = 0xAA#8 ∧
          chanRead 47 line = some (.bytes v, line') ∧ f = received v) ∧
      t.expectedSeq = r.sequence + 1 ∧
      t.stats = { s.stats with
        packetsReceived := s.stats.packetsReceived + 1
        packetsLost := s.stats.packetsLost + lossOf r.sequence s.expectedSeq
        avgLatency := ewma s.stats.avgLatency (now - r.timestamp) }) ∨
    ((s.isReset ∨ s.runs = some .resetStats) ∧ t.stats = ⟨0, 0, 0, 0, 0⟩ ∧ t.expectedSeq = 0)

/-- The link end to end (42 R133, 43 R154, 41 R118): what one instance hands to its transmit primitive in a SEND, another
instance that reads those bytes delivers to its consumer, with the readings, the sender's clock answer, its sequence number
and their CRC; its accounting is that of one accepted frame, and its cursor ends one past that number. -/
def Obligations.LinkEndToEnd : Prop :=
  ∀ (ir : Vector U16 16) (us : Vector U16 4) (a b : State) (wa : WriteAnswer) (was : List WriteAnswer)
    (timeoutMs : U32) (n : Nat) (rest : List LineItem),
    a.sending = false → a.configured = true → a.env.writeAnswers = wa :: was →
    ∃ (a' : State) (f : Vector Byte 48), exec (.send ir us true) a = .next a' ∧
      .chanWrite f Config.tTxMs ∈ a'.outputs.drop a.outputs.length ∧
      (b.rxState = .idle → b.configured = true → b.consumerEn = true → b.env.consumerReturns = n + 1 →
        b.env.rxLine = f.toList.map .byte ++ rest →
        ∃ b' : State, exec (.tryReceive timeoutMs) b = .next b' ∧
          b'.outputs = b.outputs ++ [.chanRead 1 timeoutMs, .chanRead 47 Config.tBodyMs, .now b.nowAnswer,
            .deliver ⟨ir, us, a.nowAnswer, a.txSeq, crc8 (body ir us a.nowAnswer a.txSeq)⟩,
            .result (.tryReceive .dataReceived)] ∧
          b'.expectedSeq = a.txSeq + 1 ∧ b'.expectedSeq = a'.txSeq ∧
          b'.stats = { b.stats with
            packetsReceived := b.stats.packetsReceived + 1
            packetsLost := b.stats.packetsLost + lossOf a.txSeq b.expectedSeq
            avgLatency := ewma b.stats.avgLatency (b.nowAnswer - a.nowAnswer) } ∧
          b'.rxState = .idle ∧ b'.env.rxLine = rest)

/-- 20 R62 (c), R63 and 44 R175, at the two places around the commit: GET_STATS and RESET_STATS between the clock read and the
commit, and between the commit and step 9. A snapshot at the first place shows the registers as they were, one at the second
the frame already counted. A RESET_STATS at the first makes the commit count on the zeroed registers, one at the second wipes
the count, and the record is delivered all the same. The places are inputs (log 11, 12); the other places of an attempt are
in OperationsFallAnywhereInAttempt. -/
def Obligations.OperationsFallBetweenSteps : Prop :=
  ∀ (s : State) (r : Record) (p : Ports) (rest : List Input),
    s.rxState = .validating → s.stage = .checking → decodeFrame s.rxbuf = .ok r →
    let getStats : Input := .present (.command 0x08#8 p)
    let resetStats : Input := .present (.command 0x09#8 p)
    let counted (before : LinkStats) (cursor : Byte) : LinkStats := { before with
      packetsReceived := before.packetsReceived + 1
      packetsLost := before.packetsLost + lossOf r.sequence cursor
      avgLatency := ewma before.avgLatency (s.nowAnswer - r.timestamp) }
    let ending : List Output :=
      if s.consumerEn then [.deliver r] else if s.pollAttempt then [] else [.result (.tryReceive .dataReceived)]
    (s.env.inputs = .receiverProceeds :: getStats :: .receiverProceeds :: getStats :: .receiverProceeds :: rest →
      ∃ t, Host.Core.run Sys2Proof.core 5 s = .next t ∧
        t.stats = counted s.stats s.expectedSeq ∧ t.expectedSeq = r.sequence + 1 ∧ t.env.inputs = rest ∧
        t.outputs = s.outputs ++ [.now s.nowAnswer, .result (.getStats s.stats),
          .result (.getStats (counted s.stats s.expectedSeq))] ++ ending) ∧
    (s.env.inputs = .receiverProceeds :: resetStats :: .receiverProceeds :: .receiverProceeds :: rest →
      ∃ t, Host.Core.run Sys2Proof.core 4 s = .next t ∧
        t.stats = counted ⟨0, 0, 0, 0, 0⟩ 0 ∧ t.expectedSeq = r.sequence + 1 ∧ t.env.inputs = rest ∧
        t.outputs = s.outputs ++ [.now s.nowAnswer] ++ ending) ∧
    (s.env.inputs = .receiverProceeds :: .receiverProceeds :: resetStats :: .receiverProceeds :: rest →
      ∃ t, Host.Core.run Sys2Proof.core 4 s = .next t ∧
        t.stats = ⟨0, 0, 0, 0, 0⟩ ∧ t.expectedSeq = 0 ∧ t.env.inputs = rest ∧
        t.outputs = s.outputs ++ [.now s.nowAnswer] ++ ending)

/-- 20 R62 (c), R63 and 44 R175: GET_STATS and RESET_STATS fall between any two transitions of an attempt that takes a valid
frame f: before its header read is answered (k = 0), and behind its k-th transition: the header, the body, the checks with the
clock read, the commit, the delivery, the consumer's return (without a consumer the fifth ends it). The attempt goes on as it
would without them and hands out the same. A snapshot shows the registers as they were up to the commit, and the frame counted
from then on, also before its delivery and during it; a RESET_STATS up to the commit makes it count on the zeroed registers,
one behind it wipes the count. That the transitions are these, and that their place is an input, is log 11 and 12. -/
def Obligations.OperationsFallAnywhereInAttempt : Prop :=
  ∀ (s : State) (f : Vector Byte 48) (r : Record) (line : List LineItem) (p : Ports) (rest : List Input) (k : Nat),
    s.rxState = .awaitingHeader → s.stage = .checking → (s.consumerEn = true → s.env.consumerReturns ≠ 0) →
    decodeFrame f = .ok r → s.env.rxLine = f.toList.map .byte ++ line → k ≤ 6 →
    let placed (cmd : Byte) : State := { s with env := { s.env with
      inputs := List.replicate k .receiverProceeds ++
        .present (.command cmd p) :: (List.replicate (6 - k) .receiverProceeds ++ rest) } }
    let counted (before : LinkStats) (cursor : Byte) : LinkStats := { before with
      packetsReceived := before.packetsReceived + 1
      packetsLost := before.packetsLost + lossOf r.sequence cursor
      avgLatency := ewma before.avgLatency (s.nowAnswer - r.timestamp) }
    let result : List Output := if s.pollAttempt then [] else [.result (.tryReceive .dataReceived)]
    let handedOut : List (List Output) :=
      [[.chanRead 47 Config.tBodyMs], [], [.now s.nowAnswer], [],
        if s.consumerEn then [.deliver r] else result, if s.consumerEn then result else []]
    (∃ t, Host.Core.run Sys2Proof.core 7 (placed 0x08#8) = .next t ∧
      t.rxState = .idle ∧ t.env.inputs = rest ∧ t.env.rxLine = line ∧
      t.stats = counted s.stats s.expectedSeq ∧ t.expectedSeq = r.sequence + 1 ∧
      t.outputs = s.outputs ++ (handedOut.take k).flatten ++
        [.result (.getStats (if k ≤ 3 then s.stats else counted s.stats s.expectedSeq))] ++
        (handedOut.drop k).flatten) ∧
    (∃ t, Host.Core.run Sys2Proof.core 7 (placed 0x09#8) = .next t ∧
      t.rxState = .idle ∧ t.env.inputs = rest ∧ t.env.rxLine = line ∧
      t.stats = (if k ≤ 3 then counted ⟨0, 0, 0, 0, 0⟩ 0 else ⟨0, 0, 0, 0, 0⟩) ∧
      t.expectedSeq = (if k ≤ 3 then r.sequence + 1 else 0) ∧
      t.outputs = s.outputs ++ handedOut.flatten)
end

