-- ==== Sys2Proof/Laws/Channel.lean ====
section
/-! SUPPORT. `ChanRead` by what stands at the front of the line (20_memory R57, R58, 60_exceptions R206). -/

namespace Sys2Proof.Machine

theorem leadingBytes_map_byte_append (l : List Byte) (rest : List LineItem) :
    leadingBytes (l.map .byte ++ rest) = l ++ leadingBytes rest := by
  induction l with
  | nil => rfl
  | cons b l ih => simp [leadingBytes, ih]

/-- n bytes at the front of the line are answered and consumed. -/
theorem chanRead_bytes {n : Nat} (v : Vector Byte n) (rest : List LineItem) :
    chanRead n (v.toList.map .byte ++ rest) = some (.bytes v, rest) := by
  have hl : (v.toList ++ leadingBytes rest).take n = v.toList := by
    rw [List.take_append_of_le_length (by simp), List.take_of_length_le (by simp)]
  have hd : (v.toList.map LineItem.byte ++ rest).drop n = rest := by
    rw [List.drop_append_of_le_length (by simp), List.drop_of_length_le (by simp), List.nil_append]
  unfold chanRead
  simp only [leadingBytes_map_byte_append, hl, hd, Vector.length_toList, ↓reduceDIte]
  rfl

/-- Fewer than n bytes and then an expiry: a timeout; the bytes are gone or left as the environment says. -/
theorem chanRead_timeout {n : Nat} (l : List Byte) (h : l.length < n) (leaves : Bool) (rest : List LineItem) :
    chanRead n (l.map .byte ++ .timeout leaves :: rest) =
      some (.timeout, if leaves then l.map .byte ++ rest else rest) := by
  have hl : (leadingBytes (l.map .byte ++ .timeout leaves :: rest)).take n = l := by
    rw [leadingBytes_map_byte_append, leadingBytes, List.append_nil, List.take_of_length_le (by omega)]
  unfold chanRead
  simp only [hl, Nat.ne_of_lt h, ↓reduceDIte]
  simp

/-- Fewer than n bytes and then a fault. -/
theorem chanRead_fault {n : Nat} (l : List Byte) (h : l.length < n) (leaves : Bool) (rest : List LineItem) :
    chanRead n (l.map .byte ++ .fault leaves :: rest) =
      some (.fault, if leaves then l.map .byte ++ rest else rest) := by
  have hl : (leadingBytes (l.map .byte ++ .fault leaves :: rest)).take n = l := by
    rw [leadingBytes_map_byte_append, leadingBytes, List.append_nil, List.take_of_length_le (by omega)]
  unfold chanRead
  simp only [hl, Nat.ne_of_lt h, ↓reduceDIte]
  simp

/-- Fewer than n bytes and nothing behind them: no answer yet. -/
theorem chanRead_waits {n : Nat} (l : List Byte) (h : l.length < n) : chanRead n (l.map .byte) = none := by
  have hl : (leadingBytes (l.map .byte)).take n = l := by
    have := leadingBytes_map_byte_append l []
    rw [List.append_nil] at this
    rw [this, leadingBytes, List.append_nil, List.take_of_length_le (by omega)]
  unfold chanRead
  simp only [hl, Nat.ne_of_lt h, ↓reduceDIte]
  rw [List.drop_of_length_le (by simp)]

end Sys2Proof.Machine
end

