-- ==== Sys2Proof/Laws/Codec.lean ====
section
/-! SUPPORT. The codec: bytes of a frame by offset, byte order both ways, and what `decodeFrame` answers. -/

namespace Sys2Proof.Machine

theorem fromLe16_le16 (v : U16) : fromLe16 (v.extractLsb' 0 8) (v.extractLsb' 8 8) = v := by
  apply BitVec.eq_of_toNat_eq
  simp [fromLe16, BitVec.extractLsb'_toNat, Nat.shiftRight_eq_div_pow]
  omega

theorem fromLe32_le32 (v : U32) :
    fromLe32 (v.extractLsb' 0 8) (v.extractLsb' 8 8) (v.extractLsb' 16 8) (v.extractLsb' 24 8) = v := by
  apply BitVec.eq_of_toNat_eq
  simp [fromLe32, BitVec.extractLsb'_toNat, Nat.shiftRight_eq_div_pow]
  omega

theorem fromLe16_toNat (b0 b1 : Byte) : (fromLe16 b0 b1).toNat = b0.toNat + 256 * b1.toNat := by
  simp only [fromLe16, BitVec.toNat_ofNat]; omega

theorem fromLe32_toNat (b0 b1 b2 b3 : Byte) :
    (fromLe32 b0 b1 b2 b3).toNat = b0.toNat + 256 * b1.toNat + 65536 * b2.toNat + 16777216 * b3.toNat := by
  simp only [fromLe32, BitVec.toNat_ofNat]; omega

theorem le16_fromLe16 (b0 b1 : Byte) : le16 (fromLe16 b0 b1) = [b0, b1] := by
  simp only [le16, List.cons.injEq, and_true]
  constructor <;>
  · apply BitVec.eq_of_toNat_eq
    simp only [BitVec.extractLsb'_toNat, fromLe16_toNat, Nat.shiftRight_eq_div_pow]
    omega

theorem le32_fromLe32 (b0 b1 b2 b3 : Byte) : le32 (fromLe32 b0 b1 b2 b3) = [b0, b1, b2, b3] := by
  simp only [le32, List.cons.injEq, and_true]
  refine ⟨?_, ?_, ?_, ?_⟩ <;>
  · apply BitVec.eq_of_toNat_eq
    simp only [BitVec.extractLsb'_toNat, fromLe32_toNat, Nat.shiftRight_eq_div_pow]
    omega

@[simp] theorem frameOfRecord_toList (r : Record) : (frameOfRecord r).toList = frameBytes r := by
  simp [frameOfRecord, Vector.toList]

theorem frameOfRecord_getElem (r : Record) (k : Nat) (h : k < 48) :
    (frameOfRecord r)[k] = (frameBytes r)[k]'(by rw [frameBytes_length]; exact h) := by
  simp [frameOfRecord]

/-- The two bytes of the i-th reading stand at offsets 2i and 2i+1 of its group (30_encoding R71). -/
theorem flatMap_le16_getElem? (l : List U16) (i : Nat) (h : i < l.length) :
    (l.flatMap le16)[2 * i]? = some (l[i].extractLsb' 0 8) ∧
      (l.flatMap le16)[2 * i + 1]? = some (l[i].extractLsb' 8 8) := by
  induction l generalizing i with
  | nil => simp at h
  | cons a l ih =>
    cases i with
    | zero => simp [le16]
    | succ i =>
      have := ih i (by simpa using h)
      simpa [le16, Nat.mul_add] using this

/-- Two buffers with the same list of bytes are the same buffer. -/
theorem buffer_ext {n : Nat} {f g : Vector Byte n} (h : f.toList = g.toList) : f = g :=
  Vector.toList_inj.mp h

theorem frameBytes_body (r : Record) :
    ((frameBytes r).drop 1).take 45 = body r.ir r.us r.timestamp r.sequence := by
  simp [frameBytes, recordBytes, body_length]

@[simp] theorem bodyOf_frameOfRecord (r : Record) :
    bodyOf (frameOfRecord r) = body r.ir r.us r.timestamp r.sequence := by
  rw [bodyOf, frameOfRecord_toList, frameBytes_body]

@[simp] theorem frameOfRecord_header (r : Record) : (frameOfRecord r)[0] = Config.headerByte := by
  simp [frameOfRecord_getElem, frameBytes]

@[simp] theorem frameOfRecord_crc (r : Record) : (frameOfRecord r)[46] = r.crc := by
  simp [frameOfRecord_getElem, frameBytes, recordBytes, body_length]

@[simp] theorem frameOfRecord_footer (r : Record) : (frameOfRecord r)[47] = Config.footerByte := by
  simp [frameOfRecord_getElem, frameBytes, recordBytes, body_length]

@[simp] theorem frameOfRecord_sequence (r : Record) : (frameOfRecord r)[45] = r.sequence := by
  simp [-List.length_flatMap, frameOfRecord_getElem, frameBytes, recordBytes, body, le32,
    flatMap_le16_length]

/-- What `decodeFrame` answers, said once: the first failing check, else the record (41_codec R114, R115). -/
theorem decodeFrame_cases (f : Vector Byte 48) :
    (f[0] ≠ Config.headerByte ∧ decodeFrame f = .badHeader) ∨
    (f[0] = Config.headerByte ∧ f[47] ≠ Config.footerByte ∧ decodeFrame f = .badFooter) ∨
    (f[0] = Config.headerByte ∧ f[47] = Config.footerByte ∧ crc8 (bodyOf f) ≠ f[46] ∧
      decodeFrame f = .checksumMismatch) ∨
    (validFrame f ∧ decodeFrame f = .ok (recordOfFrame f)) := by
  unfold decodeFrame
  by_cases h0 : f[0] = Config.headerByte
  · by_cases h1 : f[47] = Config.footerByte
    · by_cases h2 : crc8 (bodyOf f) = f[46]
      · exact .inr (.inr (.inr ⟨⟨h0, h1, h2.symm⟩, by simp [h0, h1, h2]⟩))
      · exact .inr (.inr (.inl ⟨h0, h1, h2, by simp [h0, h1, h2]⟩))
    · exact .inr (.inl ⟨h0, h1, by simp [h0, h1]⟩)
  · exact .inl ⟨h0, by simp [h0]⟩

/-- A record comes out exactly of a valid frame, and it is the one of R72. -/
theorem decodeFrame_eq_ok_iff (f : Vector Byte 48) (r : Record) :
    decodeFrame f = .ok r ↔ validFrame f ∧ r = recordOfFrame f := by
  have h := decodeFrame_cases f
  constructor
  · intro hr
    rcases h with ⟨_, h⟩ | ⟨_, _, h⟩ | ⟨_, _, _, h⟩ | ⟨hv, h⟩ <;> rw [hr] at h <;> cases h
    exact ⟨hv, rfl⟩
  · rintro ⟨⟨h0, h1, h2⟩, rfl⟩
    simp [decodeFrame, h0, h1, h2]

end Sys2Proof.Machine
end

