-- ==== Sys2Proof/Laws/Crc.lean ====
section
/-! SUPPORT. The CRC engine's steps over exclusive-or, and the span one byte longer. -/

namespace Sys2Proof.Machine

@[simp] theorem crcStep_zero : crcStep 0 = 0 := by decide

/-- The bit step is linear over GF(2). -/
theorem crcStep_xor (a b : Byte) : crcStep (a ^^^ b) = crcStep a ^^^ crcStep b := by
  have hs : (a ^^^ b) <<< 1 = a <<< 1 ^^^ b <<< 1 := BitVec.shiftLeft_xor_distrib ..
  have hp : ∀ x y : Byte, x ^^^ y = x ^^^ Config.crcPoly ^^^ (y ^^^ Config.crcPoly) := fun x y => by
    rw [BitVec.xor_assoc, ← BitVec.xor_assoc Config.crcPoly, BitVec.xor_comm Config.crcPoly y, BitVec.xor_assoc y,
      BitVec.xor_self, BitVec.xor_zero]
  unfold crcStep
  rw [BitVec.getLsbD_xor, hs]
  cases a.getLsbD 7 <;> cases b.getLsbD 7
  · rfl
  · exact BitVec.xor_assoc ..
  · show (a <<< 1 ^^^ b <<< 1) ^^^ Config.crcPoly = (a <<< 1 ^^^ Config.crcPoly) ^^^ b <<< 1
    rw [BitVec.xor_assoc, BitVec.xor_comm (b <<< 1), BitVec.xor_assoc]
  · exact hp ..

/-- The byte step is linear in both its arguments together. -/
theorem byteStep_xor (a a' b b' : Byte) :
    byteStep (a ^^^ a') (b ^^^ b') = byteStep a b ^^^ byteStep a' b' := by
  have h : a ^^^ a' ^^^ (b ^^^ b') = (a ^^^ b) ^^^ (a' ^^^ b') := by
    rw [BitVec.xor_assoc, BitVec.xor_assoc, ← BitVec.xor_assoc a' b, BitVec.xor_comm a' b, BitVec.xor_assoc b]
  simp only [byteStep, h, crcStep_xor]

/-- The byte step depends on the exclusive-or of its arguments alone (40_crc R107). -/
theorem byteStep_eq_zero_left (a b : Byte) : byteStep a b = byteStep 0 (a ^^^ b) := by
  simp [byteStep]

/-- No non-zero byte is lost: the byte step from 0 is injective at 0. -/
theorem byteStep_zero_eq_zero (x : Byte) : byteStep 0 x = 0 ↔ x = 0 := by
  revert x; decide +kernel

/-- The byte step gives 0 exactly on equal arguments. -/
theorem byteStep_eq_zero_iff (a b : Byte) : byteStep a b = 0 ↔ a = b := by
  rw [byteStep_eq_zero_left, byteStep_zero_eq_zero]
  constructor
  · intro h
    have := congrArg (· ^^^ b) h
    simpa [BitVec.xor_assoc] using this
  · rintro rfl
    simp

@[simp] theorem crc8_nil : crc8 [] = 0 := rfl

/-- The span one byte longer (R103). -/
theorem crc8_snoc (s : List Byte) (b : Byte) : crc8 (s ++ [b]) = byteStep (crc8 s) b := by
  simp [crc8]

/-- The span in two parts. -/
theorem crc8_append (s t : List Byte) : crc8 (s ++ t) = t.foldl byteStep (crc8 s) := by
  simp [crc8]

end Sys2Proof.Machine
end

