-- ==== Sys2Proof/Laws/PerInstr.lean ====
section
/-! SUPPORT. What holds of every instruction as syntax, one lemma per constructor. -/

namespace Sys2Proof.Laws.WordForm

/-- The form of what is presented for an instruction: a command word with a zero high nibble and one of the ten operation
codes (30_encoding R76, R78), or a frame between its two delimiters (R70). -/
def Statement (i : Instr) : Prop :=
  match encode i with
  | .command cmd _ => cmd.extractLsb' 4 4 = 0 ∧ (cmd.extractLsb' 0 4).toNat ≤ 9
  | .frame bytes => bytes[0] = Config.headerByte ∧ bytes[47] = Config.footerByte

theorem crc8 (span : List Byte) : Statement (.crc8 span) := ⟨by decide, by decide⟩

theorem encode (ir : Vector U16 16) (us : Vector U16 4) (timestamp : U32) (sequence : Byte) :
    Statement (.encode ir us timestamp sequence) := ⟨by decide, by decide⟩

theorem decode (frame : Vector Byte 48) : Statement (.decode frame) := ⟨by decide, by decide⟩

theorem configure (chv : Bool) : Statement (.configure chv) := ⟨by decide, by decide⟩

theorem send (ir : Vector U16 16) (us : Vector U16 4) (rdv : Bool) : Statement (.send ir us rdv) :=
  ⟨by decide, by decide⟩

theorem setConsumer (en : Bool) : Statement (.setConsumer en) := ⟨by decide, by decide⟩

theorem tryReceive (timeoutMs : U32) : Statement (.tryReceive timeoutMs) := ⟨by decide, by decide⟩

theorem poll : Statement .poll := ⟨by decide, by decide⟩

theorem getStats : Statement .getStats := ⟨by decide, by decide⟩

theorem resetStats : Statement .resetStats := ⟨by decide, by decide⟩

theorem frame (contents : Record) : Statement (.frame contents) :=
  ⟨Machine.frameOfRecord_header contents, Machine.frameOfRecord_footer contents⟩

end Sys2Proof.Laws.WordForm
end

