-- ==== Sys2Proof/Laws/State.lean ====
section
/-! SUPPORT. One lemma per field per named update of the state, true by unfolding once, so that no later proof unfolds an
update. -/

namespace Sys2Proof.Machine.State

variable (s : State)

/-! `emit` -/
@[simp] theorem emit_txSeq (o : Output) : (s.emit o).txSeq = s.txSeq := rfl
@[simp] theorem emit_expectedSeq (o : Output) : (s.emit o).expectedSeq = s.expectedSeq := rfl
@[simp] theorem emit_stats (o : Output) : (s.emit o).stats = s.stats := rfl
@[simp] theorem emit_configured (o : Output) : (s.emit o).configured = s.configured := rfl
@[simp] theorem emit_consumerEn (o : Output) : (s.emit o).consumerEn = s.consumerEn := rfl
@[simp] theorem emit_rxState (o : Output) : (s.emit o).rxState = s.rxState := rfl
@[simp] theorem emit_txbuf (o : Output) : (s.emit o).txbuf = s.txbuf := rfl
@[simp] theorem emit_rxbuf (o : Output) : (s.emit o).rxbuf = s.rxbuf := rfl
@[simp] theorem emit_sending (o : Output) : (s.emit o).sending = s.sending := rfl
@[simp] theorem emit_stage (o : Output) : (s.emit o).stage = s.stage := rfl
@[simp] theorem emit_pollAttempt (o : Output) : (s.emit o).pollAttempt = s.pollAttempt := rfl
@[simp] theorem emit_env (o : Output) : (s.emit o).env = s.env := rfl
@[simp] theorem emit_clockReads (o : Output) : (s.emit o).clockReads = s.clockReads := rfl
@[simp] theorem emit_deadBuffers (o : Output) : (s.emit o).deadBuffers = s.deadBuffers := rfl
@[simp] theorem emit_outputs (o : Output) : (s.emit o).outputs = s.outputs ++ [o] := rfl

/-! `raise` -/
@[simp] theorem raise_txSeq (e : Event) : (s.raise e).txSeq = s.txSeq := rfl
@[simp] theorem raise_expectedSeq (e : Event) : (s.raise e).expectedSeq = s.expectedSeq := rfl
@[simp] theorem raise_stats (e : Event) : (s.raise e).stats = countEvent e s.stats := rfl
@[simp] theorem raise_configured (e : Event) : (s.raise e).configured = s.configured := rfl
@[simp] theorem raise_consumerEn (e : Event) : (s.raise e).consumerEn = s.consumerEn := rfl
@[simp] theorem raise_rxState (e : Event) : (s.raise e).rxState = s.rxState := rfl
@[simp] theorem raise_txbuf (e : Event) : (s.raise e).txbuf = s.txbuf := rfl
@[simp] theorem raise_rxbuf (e : Event) : (s.raise e).rxbuf = s.rxbuf := rfl
@[simp] theorem raise_sending (e : Event) : (s.raise e).sending = s.sending := rfl
@[simp] theorem raise_stage (e : Event) : (s.raise e).stage = s.stage := rfl
@[simp] theorem raise_pollAttempt (e : Event) : (s.raise e).pollAttempt = s.pollAttempt := rfl
@[simp] theorem raise_env (e : Event) : (s.raise e).env = s.env := rfl
@[simp] theorem raise_clockReads (e : Event) : (s.raise e).clockReads = s.clockReads := rfl
@[simp] theorem raise_deadBuffers (e : Event) : (s.raise e).deadBuffers = s.deadBuffers := rfl
@[simp] theorem raise_outputs (e : Event) : (s.raise e).outputs = s.outputs ++ [.event e] := rfl

/-! `endAttempt` -/
@[simp] theorem endAttempt_txSeq (r : Receipt) : (s.endAttempt r).txSeq = s.txSeq := rfl
@[simp] theorem endAttempt_expectedSeq (r : Receipt) : (s.endAttempt r).expectedSeq = s.expectedSeq := rfl
@[simp] theorem endAttempt_stats (r : Receipt) : (s.endAttempt r).stats = s.stats := rfl
@[simp] theorem endAttempt_configured (r : Receipt) : (s.endAttempt r).configured = s.configured := rfl
@[simp] theorem endAttempt_consumerEn (r : Receipt) : (s.endAttempt r).consumerEn = s.consumerEn := rfl
@[simp] theorem endAttempt_rxState (r : Receipt) : (s.endAttempt r).rxState = .idle := rfl
@[simp] theorem endAttempt_txbuf (r : Receipt) : (s.endAttempt r).txbuf = s.txbuf := rfl
@[simp] theorem endAttempt_rxbuf (r : Receipt) : (s.endAttempt r).rxbuf = s.rxbuf := rfl
@[simp] theorem endAttempt_sending (r : Receipt) : (s.endAttempt r).sending = s.sending := rfl
@[simp] theorem endAttempt_stage (r : Receipt) : (s.endAttempt r).stage = .checking := rfl
@[simp] theorem endAttempt_pollAttempt (r : Receipt) : (s.endAttempt r).pollAttempt = false := rfl
@[simp] theorem endAttempt_env (r : Receipt) : (s.endAttempt r).env = s.env := rfl
@[simp] theorem endAttempt_clockReads (r : Receipt) : (s.endAttempt r).clockReads = s.clockReads := rfl
@[simp] theorem endAttempt_deadBuffers (r : Receipt) : (s.endAttempt r).deadBuffers = s.deadBuffers := rfl
@[simp] theorem endAttempt_outputs (r : Receipt) : (s.endAttempt r).outputs = s.outputs ++ if s.pollAttempt then [] else [.result (.tryReceive r)] := rfl

/-! `absorb` -/
@[simp] theorem absorb_txSeq (e : Event) : (s.absorb e).txSeq = s.txSeq := rfl
@[simp] theorem absorb_expectedSeq (e : Event) : (s.absorb e).expectedSeq = s.expectedSeq := rfl
@[simp] theorem absorb_stats (e : Event) : (s.absorb e).stats = countEvent e s.stats := rfl
@[simp] theorem absorb_configured (e : Event) : (s.absorb e).configured = s.configured := rfl
@[simp] theorem absorb_consumerEn (e : Event) : (s.absorb e).consumerEn = s.consumerEn := rfl
@[simp] theorem absorb_rxState (e : Event) : (s.absorb e).rxState = .idle := rfl
@[simp] theorem absorb_txbuf (e : Event) : (s.absorb e).txbuf = s.txbuf := rfl
@[simp] theorem absorb_rxbuf (e : Event) : (s.absorb e).rxbuf = Config.freeBuffer s.deadBuffers := rfl
@[simp] theorem absorb_sending (e : Event) : (s.absorb e).sending = s.sending := rfl
@[simp] theorem absorb_stage (e : Event) : (s.absorb e).stage = .checking := rfl
@[simp] theorem absorb_pollAttempt (e : Event) : (s.absorb e).pollAttempt = false := rfl
@[simp] theorem absorb_env (e : Event) : (s.absorb e).env = s.env := rfl
@[simp] theorem absorb_clockReads (e : Event) : (s.absorb e).clockReads = s.clockReads := rfl
@[simp] theorem absorb_deadBuffers (e : Event) : (s.absorb e).deadBuffers = s.deadBuffers + 1 := rfl
@[simp] theorem absorb_outputs (e : Event) : (s.absorb e).outputs = s.outputs ++ [.event e] ++ if s.pollAttempt then [] else [.result (.tryReceive .noData)] := rfl

/-! `loseRxbuf` -/
@[simp] theorem loseRxbuf_txSeq : (s.loseRxbuf).txSeq = s.txSeq := rfl
@[simp] theorem loseRxbuf_expectedSeq : (s.loseRxbuf).expectedSeq = s.expectedSeq := rfl
@[simp] theorem loseRxbuf_stats : (s.loseRxbuf).stats = s.stats := rfl
@[simp] theorem loseRxbuf_configured : (s.loseRxbuf).configured = s.configured := rfl
@[simp] theorem loseRxbuf_consumerEn : (s.loseRxbuf).consumerEn = s.consumerEn := rfl
@[simp] theorem loseRxbuf_rxState : (s.loseRxbuf).rxState = s.rxState := rfl
@[simp] theorem loseRxbuf_txbuf : (s.loseRxbuf).txbuf = s.txbuf := rfl
@[simp] theorem loseRxbuf_rxbuf : (s.loseRxbuf).rxbuf = Config.freeBuffer s.deadBuffers := rfl
@[simp] theorem loseRxbuf_sending : (s.loseRxbuf).sending = s.sending := rfl
@[simp] theorem loseRxbuf_stage : (s.loseRxbuf).stage = s.stage := rfl
@[simp] theorem loseRxbuf_pollAttempt : (s.loseRxbuf).pollAttempt = s.pollAttempt := rfl
@[simp] theorem loseRxbuf_env : (s.loseRxbuf).env = s.env := rfl
@[simp] theorem loseRxbuf_clockReads : (s.loseRxbuf).clockReads = s.clockReads := rfl
@[simp] theorem loseRxbuf_deadBuffers : (s.loseRxbuf).deadBuffers = s.deadBuffers + 1 := rfl
@[simp] theorem loseRxbuf_outputs : (s.loseRxbuf).outputs = s.outputs := rfl

/-! `loseTxbuf` -/
@[simp] theorem loseTxbuf_txSeq : (s.loseTxbuf).txSeq = s.txSeq := rfl
@[simp] theorem loseTxbuf_expectedSeq : (s.loseTxbuf).expectedSeq = s.expectedSeq := rfl
@[simp] theorem loseTxbuf_stats : (s.loseTxbuf).stats = s.stats := rfl
@[simp] theorem loseTxbuf_configured : (s.loseTxbuf).configured = s.configured := rfl
@[simp] theorem loseTxbuf_consumerEn : (s.loseTxbuf).consumerEn = s.consumerEn := rfl
@[simp] theorem loseTxbuf_rxState : (s.loseTxbuf).rxState = s.rxState := rfl
@[simp] theorem loseTxbuf_txbuf : (s.loseTxbuf).txbuf = Config.freeBuffer s.deadBuffers := rfl
@[simp] theorem loseTxbuf_rxbuf : (s.loseTxbuf).rxbuf = s.rxbuf := rfl
@[simp] theorem loseTxbuf_sending : (s.loseTxbuf).sending = s.sending := rfl
@[simp] theorem loseTxbuf_stage : (s.loseTxbuf).stage = s.stage := rfl
@[simp] theorem loseTxbuf_pollAttempt : (s.loseTxbuf).pollAttempt = s.pollAttempt := rfl
@[simp] theorem loseTxbuf_env : (s.loseTxbuf).env = s.env := rfl
@[simp] theorem loseTxbuf_clockReads : (s.loseTxbuf).clockReads = s.clockReads := rfl
@[simp] theorem loseTxbuf_deadBuffers : (s.loseTxbuf).deadBuffers = s.deadBuffers + 1 := rfl
@[simp] theorem loseTxbuf_outputs : (s.loseTxbuf).outputs = s.outputs := rfl

/-! `sendFails` -/
@[simp] theorem sendFails_txSeq (e : Event) : (s.sendFails e).txSeq = s.txSeq := rfl
@[simp] theorem sendFails_expectedSeq (e : Event) : (s.sendFails e).expectedSeq = s.expectedSeq := rfl
@[simp] theorem sendFails_stats (e : Event) : (s.sendFails e).stats = countEvent e s.stats := rfl
@[simp] theorem sendFails_configured (e : Event) : (s.sendFails e).configured = s.configured := rfl
@[simp] theorem sendFails_consumerEn (e : Event) : (s.sendFails e).consumerEn = s.consumerEn := rfl
@[simp] theorem sendFails_rxState (e : Event) : (s.sendFails e).rxState = s.rxState := rfl
@[simp] theorem sendFails_txbuf (e : Event) : (s.sendFails e).txbuf = s.txbuf := rfl
@[simp] theorem sendFails_rxbuf (e : Event) : (s.sendFails e).rxbuf = s.rxbuf := rfl
@[simp] theorem sendFails_sending (e : Event) : (s.sendFails e).sending = s.sending := rfl
@[simp] theorem sendFails_stage (e : Event) : (s.sendFails e).stage = s.stage := rfl
@[simp] theorem sendFails_pollAttempt (e : Event) : (s.sendFails e).pollAttempt = s.pollAttempt := rfl
@[simp] theorem sendFails_env (e : Event) : (s.sendFails e).env = s.env := rfl
@[simp] theorem sendFails_clockReads (e : Event) : (s.sendFails e).clockReads = s.clockReads := rfl
@[simp] theorem sendFails_deadBuffers (e : Event) : (s.sendFails e).deadBuffers = s.deadBuffers := rfl
@[simp] theorem sendFails_outputs (e : Event) : (s.sendFails e).outputs = s.outputs ++ [.event e] ++ [.result (.send false)] := rfl

/-! `readClock` -/
@[simp] theorem readClock_txSeq : (s.readClock).txSeq = s.txSeq := rfl
@[simp] theorem readClock_expectedSeq : (s.readClock).expectedSeq = s.expectedSeq := rfl
@[simp] theorem readClock_stats : (s.readClock).stats = s.stats := rfl
@[simp] theorem readClock_configured : (s.readClock).configured = s.configured := rfl
@[simp] theorem readClock_consumerEn : (s.readClock).consumerEn = s.consumerEn := rfl
@[simp] theorem readClock_rxState : (s.readClock).rxState = s.rxState := rfl
@[simp] theorem readClock_txbuf : (s.readClock).txbuf = s.txbuf := rfl
@[simp] theorem readClock_rxbuf : (s.readClock).rxbuf = s.rxbuf := rfl
@[simp] theorem readClock_sending : (s.readClock).sending = s.sending := rfl
@[simp] theorem readClock_stage : (s.readClock).stage = s.stage := rfl
@[simp] theorem readClock_pollAttempt : (s.readClock).pollAttempt = s.pollAttempt := rfl
@[simp] theorem readClock_env : (s.readClock).env = { s.env with clock := s.env.clock.tail } := rfl
@[simp] theorem readClock_clockReads : (s.readClock).clockReads = s.clockReads + 1 := rfl
@[simp] theorem readClock_deadBuffers : (s.readClock).deadBuffers = s.deadBuffers := rfl
@[simp] theorem readClock_outputs : (s.readClock).outputs = s.outputs ++ [.now s.nowAnswer] := rfl

/-! `setLine` -/
@[simp] theorem setLine_txSeq (line : List LineItem) : (s.setLine line).txSeq = s.txSeq := rfl
@[simp] theorem setLine_expectedSeq (line : List LineItem) : (s.setLine line).expectedSeq = s.expectedSeq := rfl
@[simp] theorem setLine_stats (line : List LineItem) : (s.setLine line).stats = s.stats := rfl
@[simp] theorem setLine_configured (line : List LineItem) : (s.setLine line).configured = s.configured := rfl
@[simp] theorem setLine_consumerEn (line : List LineItem) : (s.setLine line).consumerEn = s.consumerEn := rfl
@[simp] theorem setLine_rxState (line : List LineItem) : (s.setLine line).rxState = s.rxState := rfl
@[simp] theorem setLine_txbuf (line : List LineItem) : (s.setLine line).txbuf = s.txbuf := rfl
@[simp] theorem setLine_rxbuf (line : List LineItem) : (s.setLine line).rxbuf = s.rxbuf := rfl
@[simp] theorem setLine_sending (line : List LineItem) : (s.setLine line).sending = s.sending := rfl
@[simp] theorem setLine_stage (line : List LineItem) : (s.setLine line).stage = s.stage := rfl
@[simp] theorem setLine_pollAttempt (line : List LineItem) : (s.setLine line).pollAttempt = s.pollAttempt := rfl
@[simp] theorem setLine_env (line : List LineItem) : (s.setLine line).env = { s.env with rxLine := line } := rfl
@[simp] theorem setLine_clockReads (line : List LineItem) : (s.setLine line).clockReads = s.clockReads := rfl
@[simp] theorem setLine_deadBuffers (line : List LineItem) : (s.setLine line).deadBuffers = s.deadBuffers := rfl
@[simp] theorem setLine_outputs (line : List LineItem) : (s.setLine line).outputs = s.outputs := rfl

/-! `arrive` -/
@[simp] theorem arrive_txSeq (bytes : Vector Byte 48) : (s.arrive bytes).txSeq = s.txSeq := rfl
@[simp] theorem arrive_expectedSeq (bytes : Vector Byte 48) : (s.arrive bytes).expectedSeq = s.expectedSeq := rfl
@[simp] theorem arrive_stats (bytes : Vector Byte 48) : (s.arrive bytes).stats = s.stats := rfl
@[simp] theorem arrive_configured (bytes : Vector Byte 48) : (s.arrive bytes).configured = s.configured := rfl
@[simp] theorem arrive_consumerEn (bytes : Vector Byte 48) : (s.arrive bytes).consumerEn = s.consumerEn := rfl
@[simp] theorem arrive_rxState (bytes : Vector Byte 48) : (s.arrive bytes).rxState = s.rxState := rfl
@[simp] theorem arrive_txbuf (bytes : Vector Byte 48) : (s.arrive bytes).txbuf = s.txbuf := rfl
@[simp] theorem arrive_rxbuf (bytes : Vector Byte 48) : (s.arrive bytes).rxbuf = s.rxbuf := rfl
@[simp] theorem arrive_sending (bytes : Vector Byte 48) : (s.arrive bytes).sending = s.sending := rfl
@[simp] theorem arrive_stage (bytes : Vector Byte 48) : (s.arrive bytes).stage = s.stage := rfl
@[simp] theorem arrive_pollAttempt (bytes : Vector Byte 48) : (s.arrive bytes).pollAttempt = s.pollAttempt := rfl
@[simp] theorem arrive_env (bytes : Vector Byte 48) : (s.arrive bytes).env = { s.env with rxLine := s.env.rxLine ++ bytes.toList.map .byte } := rfl
@[simp] theorem arrive_clockReads (bytes : Vector Byte 48) : (s.arrive bytes).clockReads = s.clockReads := rfl
@[simp] theorem arrive_deadBuffers (bytes : Vector Byte 48) : (s.arrive bytes).deadBuffers = s.deadBuffers := rfl
@[simp] theorem arrive_outputs (bytes : Vector Byte 48) : (s.arrive bytes).outputs = s.outputs := rfl

/-! `setInputs` -/
@[simp] theorem setInputs_txSeq (inputs : List Input) : (s.setInputs inputs).txSeq = s.txSeq := rfl
@[simp] theorem setInputs_expectedSeq (inputs : List Input) : (s.setInputs inputs).expectedSeq = s.expectedSeq := rfl
@[simp] theorem setInputs_stats (inputs : List Input) : (s.setInputs inputs).stats = s.stats := rfl
@[simp] theorem setInputs_configured (inputs : List Input) : (s.setInputs inputs).configured = s.configured := rfl
@[simp] theorem setInputs_consumerEn (inputs : List Input) : (s.setInputs inputs).consumerEn = s.consumerEn := rfl
@[simp] theorem setInputs_rxState (inputs : List Input) : (s.setInputs inputs).rxState = s.rxState := rfl
@[simp] theorem setInputs_txbuf (inputs : List Input) : (s.setInputs inputs).txbuf = s.txbuf := rfl
@[simp] theorem setInputs_rxbuf (inputs : List Input) : (s.setInputs inputs).rxbuf = s.rxbuf := rfl
@[simp] theorem setInputs_sending (inputs : List Input) : (s.setInputs inputs).sending = s.sending := rfl
@[simp] theorem setInputs_stage (inputs : List Input) : (s.setInputs inputs).stage = s.stage := rfl
@[simp] theorem setInputs_pollAttempt (inputs : List Input) : (s.setInputs inputs).pollAttempt = s.pollAttempt := rfl
@[simp] theorem setInputs_env (inputs : List Input) : (s.setInputs inputs).env = { s.env with inputs := inputs } := rfl
@[simp] theorem setInputs_clockReads (inputs : List Input) : (s.setInputs inputs).clockReads = s.clockReads := rfl
@[simp] theorem setInputs_deadBuffers (inputs : List Input) : (s.setInputs inputs).deadBuffers = s.deadBuffers := rfl
@[simp] theorem setInputs_outputs (inputs : List Input) : (s.setInputs inputs).outputs = s.outputs := rfl

/-! `hardwareReset` -/
@[simp] theorem hardwareReset_txSeq : (s.hardwareReset).txSeq = 0 := rfl
@[simp] theorem hardwareReset_expectedSeq : (s.hardwareReset).expectedSeq = 0 := rfl
@[simp] theorem hardwareReset_stats : (s.hardwareReset).stats = LinkStats.zero := rfl
@[simp] theorem hardwareReset_configured : (s.hardwareReset).configured = false := rfl
@[simp] theorem hardwareReset_consumerEn : (s.hardwareReset).consumerEn = false := rfl
@[simp] theorem hardwareReset_rxState : (s.hardwareReset).rxState = .idle := rfl
@[simp] theorem hardwareReset_txbuf : (s.hardwareReset).txbuf = Vector.replicate 48 0 := rfl
@[simp] theorem hardwareReset_rxbuf : (s.hardwareReset).rxbuf = Vector.replicate 48 0 := rfl
@[simp] theorem hardwareReset_sending : (s.hardwareReset).sending = false := rfl
@[simp] theorem hardwareReset_stage : (s.hardwareReset).stage = .checking := rfl
@[simp] theorem hardwareReset_pollAttempt : (s.hardwareReset).pollAttempt = false := rfl
@[simp] theorem hardwareReset_env : (s.hardwareReset).env = s.env := rfl
@[simp] theorem hardwareReset_clockReads : (s.hardwareReset).clockReads = s.clockReads := rfl
@[simp] theorem hardwareReset_deadBuffers : (s.hardwareReset).deadBuffers = s.deadBuffers := rfl
@[simp] theorem hardwareReset_outputs : (s.hardwareReset).outputs = s.outputs := rfl

end Sys2Proof.Machine.State

namespace Sys2Proof.Machine

variable (contents : Record) (now : U32) (ir : Vector U16 16) (us : Vector U16 4) (s : State)

/-! `commit` -/
@[simp] theorem commit_txSeq : (commit contents now s).txSeq = s.txSeq := rfl
@[simp] theorem commit_expectedSeq : (commit contents now s).expectedSeq = contents.sequence + 1 := rfl
@[simp] theorem commit_stats : (commit contents now s).stats = 
    { s.stats with
      packetsLost := s.stats.packetsLost + lossOf contents.sequence s.expectedSeq
      packetsReceived := s.stats.packetsReceived + 1
      avgLatency := ewma s.stats.avgLatency (now - contents.timestamp) } := rfl
@[simp] theorem commit_configured : (commit contents now s).configured = s.configured := rfl
@[simp] theorem commit_consumerEn : (commit contents now s).consumerEn = s.consumerEn := rfl
@[simp] theorem commit_rxState : (commit contents now s).rxState = s.rxState := rfl
@[simp] theorem commit_txbuf : (commit contents now s).txbuf = s.txbuf := rfl
@[simp] theorem commit_rxbuf : (commit contents now s).rxbuf = s.rxbuf := rfl
@[simp] theorem commit_sending : (commit contents now s).sending = s.sending := rfl
@[simp] theorem commit_stage : (commit contents now s).stage = s.stage := rfl
@[simp] theorem commit_pollAttempt : (commit contents now s).pollAttempt = s.pollAttempt := rfl
@[simp] theorem commit_env : (commit contents now s).env = s.env := rfl
@[simp] theorem commit_clockReads : (commit contents now s).clockReads = s.clockReads := rfl
@[simp] theorem commit_deadBuffers : (commit contents now s).deadBuffers = s.deadBuffers := rfl
@[simp] theorem commit_outputs : (commit contents now s).outputs = s.outputs := rfl

/-! `commitTimed` -/
@[simp] theorem commitTimed_txSeq : (commitTimed now s).txSeq = s.txSeq := rfl
@[simp] theorem commitTimed_configured : (commitTimed now s).configured = s.configured := rfl
@[simp] theorem commitTimed_consumerEn : (commitTimed now s).consumerEn = s.consumerEn := rfl
@[simp] theorem commitTimed_rxState : (commitTimed now s).rxState = s.rxState := rfl
@[simp] theorem commitTimed_txbuf : (commitTimed now s).txbuf = s.txbuf := rfl
@[simp] theorem commitTimed_rxbuf : (commitTimed now s).rxbuf = s.rxbuf := rfl
@[simp] theorem commitTimed_sending : (commitTimed now s).sending = s.sending := rfl
@[simp] theorem commitTimed_pollAttempt : (commitTimed now s).pollAttempt = s.pollAttempt := rfl
@[simp] theorem commitTimed_env : (commitTimed now s).env = s.env := rfl
@[simp] theorem commitTimed_clockReads : (commitTimed now s).clockReads = s.clockReads := rfl
@[simp] theorem commitTimed_deadBuffers : (commitTimed now s).deadBuffers = s.deadBuffers := rfl
@[simp] theorem commitTimed_outputs : (commitTimed now s).outputs = s.outputs := rfl
@[simp] theorem commitTimed_stage : (commitTimed now s).stage = .committed := rfl
@[simp] theorem commitTimed_expectedSeq : (commitTimed now s).expectedSeq = s.rxbuf[45] + 1 := rfl
@[simp] theorem commitTimed_stats : (commitTimed now s).stats =
    (commit (recordOfFrame s.rxbuf) now s).stats := rfl

/-! `beginSend` -/
@[simp] theorem beginSend_txSeq : (beginSend ir us s).txSeq = s.txSeq + 1 := rfl
@[simp] theorem beginSend_expectedSeq : (beginSend ir us s).expectedSeq = s.expectedSeq := rfl
@[simp] theorem beginSend_stats : (beginSend ir us s).stats = s.stats := rfl
@[simp] theorem beginSend_configured : (beginSend ir us s).configured = s.configured := rfl
@[simp] theorem beginSend_consumerEn : (beginSend ir us s).consumerEn = s.consumerEn := rfl
@[simp] theorem beginSend_rxState : (beginSend ir us s).rxState = s.rxState := rfl
@[simp] theorem beginSend_txbuf : (beginSend ir us s).txbuf = encodeFrame ir us s.nowAnswer s.txSeq := rfl
@[simp] theorem beginSend_rxbuf : (beginSend ir us s).rxbuf = s.rxbuf := rfl
@[simp] theorem beginSend_sending : (beginSend ir us s).sending = true := rfl
@[simp] theorem beginSend_stage : (beginSend ir us s).stage = s.stage := rfl
@[simp] theorem beginSend_pollAttempt : (beginSend ir us s).pollAttempt = s.pollAttempt := rfl
@[simp] theorem beginSend_env : (beginSend ir us s).env = { s.env with clock := s.env.clock.tail } := rfl
@[simp] theorem beginSend_clockReads : (beginSend ir us s).clockReads = s.clockReads + 1 := rfl
@[simp] theorem beginSend_deadBuffers : (beginSend ir us s).deadBuffers = s.deadBuffers := rfl
@[simp] theorem beginSend_outputs : (beginSend ir us s).outputs = 
    s.outputs ++ [.now s.nowAnswer] ++ [.chanWrite (encodeFrame ir us s.nowAnswer s.txSeq) Config.tTxMs] := rfl

end Sys2Proof.Machine
end

