-- ==== Sys2Proof/Laws/Receiver.lean ====
section
/-! SUPPORT. What the receiver's operations can do, each said once. -/

namespace Sys2Proof.Machine

theorem rxAdvance_idle {s : State} (h : s.rxState = .idle) : rxAdvance s = s := by
  simp [rxAdvance, h]

theorem rxAdvance_header {s : State} (h : s.rxState = .awaitingHeader) {a : ReadAnswer 1} {line : List LineItem}
    (hr : chanRead 1 s.env.rxLine = some (a, line)) : rxAdvance s = headerAnswered a (s.setLine line) := by
  simp [rxAdvance, h, hr]

theorem rxAdvance_header_waits {s : State} (h : s.rxState = .awaitingHeader)
    (hr : chanRead 1 s.env.rxLine = none) : rxAdvance s = s := by
  simp [rxAdvance, h, hr]

theorem rxAdvance_body {s : State} (h : s.rxState = .awaitingFooter) {a : ReadAnswer 47} {line : List LineItem}
    (hr : chanRead 47 s.env.rxLine = some (a, line)) : rxAdvance s = bodyAnswered a (s.setLine line) := by
  simp [rxAdvance, h, hr]

theorem rxAdvance_body_waits {s : State} (h : s.rxState = .awaitingFooter)
    (hr : chanRead 47 s.env.rxLine = none) : rxAdvance s = s := by
  simp [rxAdvance, h, hr]

theorem rxAdvance_validates {s : State} (h : s.rxState = .validating) (hs : s.stage = .checking) :
    rxAdvance s = validate s := by
  simp [rxAdvance, h, hs]

theorem rxAdvance_commits {s : State} (h : s.rxState = .validating) {now : U32} (hs : s.stage = .timed now) :
    rxAdvance s = commitTimed now s := by
  simp [rxAdvance, h, hs]

theorem rxAdvance_delivers {s : State} (h : s.rxState = .validating) (hs : s.stage = .committed) :
    rxAdvance s = deliverOrEnd s := by
  simp [rxAdvance, h, hs]

theorem rxAdvance_delivering {s : State} (h : s.rxState = .validating) (hs : s.stage = .delivering) :
    rxAdvance s = consumerReturned s := by
  simp [rxAdvance, h, hs]

/-- The consumer's return ends the attempt (R153). -/
theorem consumerReturned_succ {s : State} {k : Nat} (hc : s.env.consumerReturns = k + 1) :
    consumerReturned s = { s with env := { s.env with consumerReturns := k } }.endAttempt .dataReceived := by
  simp [consumerReturned, hc]

/-- Everything the RX unit can do in one transition (43_receiver R155, 20_memory R62 (c)). -/
theorem rxAdvance_cases (s : State) :
    rxAdvance s = s ∨
    (s.rxState = .awaitingHeader ∧ ∃ a line, chanRead 1 s.env.rxLine = some (a, line) ∧
      rxAdvance s = headerAnswered a (s.setLine line)) ∨
    (s.rxState = .awaitingFooter ∧ ∃ a line, chanRead 47 s.env.rxLine = some (a, line) ∧
      rxAdvance s = bodyAnswered a (s.setLine line)) ∨
    (s.rxState = .validating ∧ s.stage = .checking ∧ rxAdvance s = validate s) ∨
    (s.rxState = .validating ∧ ∃ now, s.stage = .timed now ∧ rxAdvance s = commitTimed now s) ∨
    (s.rxState = .validating ∧ s.stage = .committed ∧ rxAdvance s = deliverOrEnd s) ∨
    (s.rxState = .validating ∧ s.stage = .delivering ∧ ∃ k, s.env.consumerReturns = k + 1 ∧
      rxAdvance s = { s with env := { s.env with consumerReturns := k } }.endAttempt .dataReceived) := by
  cases hx : s.rxState with
  | idle => exact .inl (rxAdvance_idle hx)
  | awaitingHeader =>
    cases hr : chanRead 1 s.env.rxLine with
    | none => exact .inl (rxAdvance_header_waits hx hr)
    | some p => exact .inr (.inl ⟨rfl, p.1, p.2, rfl, rxAdvance_header hx hr⟩)
  | awaitingFooter =>
    cases hr : chanRead 47 s.env.rxLine with
    | none => exact .inl (rxAdvance_body_waits hx hr)
    | some p => exact .inr (.inr (.inl ⟨rfl, p.1, p.2, rfl, rxAdvance_body hx hr⟩))
  | validating =>
    cases hs : s.stage with
    | checking => exact .inr (.inr (.inr (.inl ⟨rfl, rfl, rxAdvance_validates hx hs⟩)))
    | timed now => exact .inr (.inr (.inr (.inr (.inl ⟨rfl, now, rfl, rxAdvance_commits hx hs⟩))))
    | committed => exact .inr (.inr (.inr (.inr (.inr (.inl ⟨rfl, rfl, rxAdvance_delivers hx hs⟩)))))
    | delivering =>
      have h := rxAdvance_delivering hx hs
      cases hc : s.env.consumerReturns with
      | zero => exact .inl (by rw [h]; simp [consumerReturned, hc])
      | succ k => exact .inr (.inr (.inr (.inr (.inr (.inr ⟨rfl, rfl, k, rfl, by rw [h, consumerReturned_succ hc]; rfl⟩)))))

/-- Everything the answer of the header read can do (R143, R144). -/
theorem headerAnswered_cases (a : ReadAnswer 1) (s : State) :
    (a = .timeout ∧ headerAnswered a s = s.absorb .timeout) ∨
    (a = .fault ∧ headerAnswered a s = s.absorb .linkFault) ∨
    (∃ h, a = .bytes h ∧ h[0] ≠ Config.headerByte ∧ headerAnswered a s = s.absorb (.frameSyncFailure .header)) ∨
    (∃ h, a = .bytes h ∧ h[0] = Config.headerByte ∧
      headerAnswered a s = { s with rxbuf := s.rxbuf.set 0 Config.headerByte, rxState := .awaitingFooter }.emit
        (.chanRead 47 Config.tBodyMs)) := by
  cases a with
  | timeout => exact .inl ⟨rfl, rfl⟩
  | fault => exact .inr (.inl ⟨rfl, rfl⟩)
  | bytes h =>
    by_cases hh : h[0] = Config.headerByte
    · exact .inr (.inr (.inr ⟨h, rfl, hh, by simp [headerAnswered, hh]⟩))
    · exact .inr (.inr (.inl ⟨h, rfl, hh, by simp [headerAnswered, hh]⟩))

/-- Everything the answer of the body read can do (R145). -/
theorem bodyAnswered_cases (a : ReadAnswer 47) (s : State) :
    (a = .timeout ∧ bodyAnswered a s = s.absorb .timeout) ∨
    (a = .fault ∧ bodyAnswered a s = s.absorb .linkFault) ∨
    (∃ v, a = .bytes v ∧
      bodyAnswered a s = { s with
        rxbuf := (#v[s.rxbuf[0]] ++ v : Vector Byte (1 + 47)), rxState := .validating }) := by
  cases a with
  | timeout => exact .inl ⟨rfl, rfl⟩
  | fault => exact .inr (.inl ⟨rfl, rfl⟩)
  | bytes v => exact .inr (.inr ⟨v, rfl, rfl⟩)

/-- Everything the checks can do (R146, R147): reject, or read the clock for the commit. -/
theorem validate_cases (s : State) :
    (∃ d, validate s = s.absorb (.frameSyncFailure d)) ∨
    (decodeFrame s.rxbuf = .checksumMismatch ∧ validate s = s.absorb .checksumMismatch) ∨
    (decodeFrame s.rxbuf = .ok (recordOfFrame s.rxbuf) ∧
      validate s = { s.readClock with stage := .timed s.nowAnswer }) := by
  unfold validate
  split
  · exact .inl ⟨_, rfl⟩
  · split
    · exact .inl ⟨_, rfl⟩
    · exact .inl ⟨_, rfl⟩
    next h => exact .inr (.inl ⟨h, rfl⟩)
    next r h => exact .inr (.inr ⟨by rw [h, ((decodeFrame_eq_ok_iff _ _).mp h).2], rfl⟩)

/-- Everything step 9 can do (R153): end, or deliver. -/
theorem deliverOrEnd_cases (s : State) :
    (s.consumerEn = false ∧ deliverOrEnd s = s.endAttempt .dataReceived) ∨
    (s.consumerEn = true ∧
      deliverOrEnd s = { s with stage := .delivering }.emit (.deliver (recordOfFrame s.rxbuf))) := by
  cases hc : s.consumerEn
  · exact .inl ⟨rfl, by simp [deliverOrEnd, hc]⟩
  · exact .inr ⟨rfl, by simp [deliverOrEnd, hc]⟩

/-- A transition of the RX unit leaves everything of the Sender, the configuration and the inputs, and takes back no output. -/
theorem rxAdvance_frame (s : State) :
    (rxAdvance s).txSeq = s.txSeq ∧ (rxAdvance s).txbuf = s.txbuf ∧ (rxAdvance s).sending = s.sending ∧
    (rxAdvance s).configured = s.configured ∧ (rxAdvance s).consumerEn = s.consumerEn ∧
    (rxAdvance s).env.writeAnswers = s.env.writeAnswers ∧ (rxAdvance s).env.inputs = s.env.inputs ∧
    s.outputs <+: (rxAdvance s).outputs := by
  rcases rxAdvance_cases s with h | ⟨_, a, l, _, h⟩ | ⟨_, a, l, _, h⟩ | ⟨_, _, h⟩ | ⟨_, _, _, h⟩ | ⟨_, _, h⟩ |
    ⟨_, _, _, _, h⟩ <;> rw [h]
  · simp
  · rcases headerAnswered_cases a (s.setLine l) with ⟨_, h⟩ | ⟨_, h⟩ | ⟨_, _, _, h⟩ | ⟨_, _, _, h⟩ <;> rw [h] <;> simp
  · rcases bodyAnswered_cases a (s.setLine l) with ⟨_, h⟩ | ⟨_, h⟩ | ⟨_, _, h⟩ <;> rw [h] <;> simp
  · rcases validate_cases s with ⟨_, h⟩ | ⟨_, h⟩ | ⟨_, h⟩ <;> rw [h] <;> simp
  · simp
  · rcases deliverOrEnd_cases s with ⟨_, h⟩ | ⟨_, h⟩ <;> rw [h] <;> simp
  · simp

/-- The state in which the header read has just been requested (R143, R154). -/
abbrev begun (timeoutMs : U32) (byPoll : Bool) (s : State) : State :=
  { s with rxState := .awaitingHeader, stage := .checking, pollAttempt := byPoll }.emit (.chanRead 1 timeoutMs)

/-- Everything the start of an attempt can do (R142). -/
theorem attempt_cases (timeoutMs : U32) (byPoll : Bool) (s : State) :
    (s.rxState ≠ .idle ∧ attempt timeoutMs byPoll s = .refused .receiverBusy) ∨
    (s.rxState = .idle ∧ s.configured = false ∧
      attempt timeoutMs byPoll s = .next (({ s with pollAttempt := byPoll }.raise .channelUnconfigured).endAttempt .noData)) ∨
    (s.rxState = .idle ∧ s.configured = true ∧
      attempt timeoutMs byPoll s = .next (runAttempt (begun timeoutMs byPoll s))) := by
  unfold attempt
  by_cases hx : s.rxState = .idle <;> cases hc : s.configured <;> simp [hx, hc, begun]

/-- A relation that every transition of the RX unit keeps holds of a whole attempt. -/
theorem runAttempt_induction {P : State → Prop} (hstep : ∀ s, P s → P (rxAdvance s)) {s : State} (h : P s) :
    P (runAttempt s) :=
  hstep _ (hstep _ (hstep _ (hstep _ (hstep _ (hstep _ h)))))

end Sys2Proof.Machine
end

