-- ==== Sys2Proof/Laws/Sender.lean ====
section
/-! SUPPORT. What the sender's operations can do, each said once. -/

namespace Sys2Proof.Machine

/-- Everything the TX unit can do in one transition: nothing, or take the answer of its `ChanWrite` (42_sender R131). -/
theorem txAdvance_cases (s : State) :
    txAdvance s = s ∨
    (s.sending = true ∧ ∃ rest, s.env.writeAnswers = .ok :: rest ∧
      txAdvance s = { s with sending := false, env := { s.env with writeAnswers := rest } }.emit
        (.result (.send true))) ∨
    (s.sending = true ∧ ∃ rest, s.env.writeAnswers = .fail :: rest ∧
      txAdvance s = { s with sending := false, env := { s.env with writeAnswers := rest } }.loseTxbuf.sendFails .linkFault) := by
  unfold txAdvance
  split
  next h =>
    split
    · exact .inl rfl
    next rest hw => exact .inr (.inl ⟨h, rest, hw, rfl⟩)
    next rest hw => exact .inr (.inr ⟨h, rest, hw, rfl⟩)
  next => exact .inl rfl

/-- Everything `SEND` can do (42_sender R133, 60_exceptions R204). -/
theorem execSend_cases (ir : Vector U16 16) (us : Vector U16 4) (rdv : Bool) (s : State) :
    (s.sending = true ∧ execSend ir us rdv s = .refused .senderBusy) ∨
    (s.sending = false ∧ s.configured = false ∧ execSend ir us rdv s = .next (s.sendFails .channelUnconfigured)) ∨
    (s.sending = false ∧ s.configured = true ∧ rdv = false ∧
      execSend ir us rdv s = .next (s.sendFails .invalidInput)) ∨
    (s.sending = false ∧ s.configured = true ∧ rdv = true ∧
      execSend ir us rdv s = .next (txAdvance (beginSend ir us s))) := by
  unfold execSend
  cases hs : s.sending <;> cases hc : s.configured <;> cases rdv <;> simp

/-- A transition of the TX unit leaves everything of the Receiver, the configuration and the counters of the Sender. -/
theorem txAdvance_frame (s : State) :
    (txAdvance s).txSeq = s.txSeq ∧ (txAdvance s).expectedSeq = s.expectedSeq ∧ (txAdvance s).stats = s.stats ∧
    (txAdvance s).configured = s.configured ∧ (txAdvance s).consumerEn = s.consumerEn ∧
    (txAdvance s).rxState = s.rxState ∧ (txAdvance s).rxbuf = s.rxbuf ∧
    (txAdvance s).stage = s.stage ∧ (txAdvance s).pollAttempt = s.pollAttempt ∧
    (txAdvance s).clockReads = s.clockReads ∧ (txAdvance s).env.rxLine = s.env.rxLine ∧
    (txAdvance s).env.inputs = s.env.inputs := by
  rcases txAdvance_cases s with h | ⟨_, rest, _, h⟩ | ⟨_, rest, _, h⟩ <;> rw [h] <;> simp [countEvent]

end Sys2Proof.Machine
end

