-- ==== Sys2Proof/Laws/Step.lean ====
section
/-! SUPPORT. What a step can do, said once: everything a claim about all steps needs to go through. -/

namespace Sys2Proof.Machine

/-- A step that runs an instruction is no reset, and no attempt goes on in it by itself. -/
theorem State.runs_only {s : State} {i : Instr} (h : s.runs = some i) : ¬ s.isReset ∧ ¬ s.attemptGoesOn := by
  unfold State.runs at h
  split at h
  next hi => simp [State.isReset, State.attemptGoesOn, hi]
  next => cases h

/-- Everything a step with a next state can do (log 11): the units go on by themselves; an instruction runs; bytes that are no
frame arrive; one unit makes a transition; the block is reset; or something outside becomes ready and no unit moves. -/
theorem step_cases {s t : State} (h : step s = .next t) :
    (s.env.inputs = [] ∧ t = txAdvance (rxAdvance s)) ∨
    (∃ i, s.runs = some i ∧ exec i (s.setInputs s.env.inputs.tail) = .next t) ∨
    (∃ bytes rest, s.env.inputs = .present (.frame bytes) :: rest ∧ s.runs = none ∧
      t = (s.setInputs rest).arrive bytes) ∨
    (∃ rest, s.env.inputs = .receiverProceeds :: rest ∧ t = rxAdvance (s.setInputs rest)) ∨
    (∃ rest, s.env.inputs = .senderProceeds :: rest ∧ t = txAdvance (s.setInputs rest)) ∨
    (∃ rest, s.env.inputs = .hardwareReset :: rest ∧ t = (s.setInputs rest).hardwareReset) ∨
    (s.runs = none ∧ ¬ s.isReset ∧ ¬ s.attemptGoesOn ∧ ∃ env, t = { s with env := env }) := by
  simp only [step, happens] at h
  cases hi : s.env.inputs with
  | nil => rw [hi] at h; injection h with h; exact .inl ⟨rfl, h.symm⟩
  | cons input rest =>
    rw [hi] at h
    simp only [State.runs, State.isReset, State.attemptGoesOn, hi]
    cases input with
    | present what =>
      simp only [applyInput, present] at h
      cases hd : decode what with
      | ok i => rw [hd] at h; exact .inr (.inl ⟨i, by simp [hd, Except.toOption], h⟩)
      | error e =>
        rw [hd] at h
        cases what with
        | command cmd p => cases h
        | frame bytes => cases h; exact .inr (.inr (.inl ⟨bytes, rest, rfl, by simp [hd, Except.toOption], rfl⟩))
    | receiverProceeds => cases h; exact .inr (.inr (.inr (.inl ⟨rest, rfl, rfl⟩)))
    | senderProceeds => cases h; exact .inr (.inr (.inr (.inr (.inl ⟨rest, rfl, rfl⟩))))
    | hardwareReset => cases h; exact .inr (.inr (.inr (.inr (.inr (.inl ⟨rest, rfl, rfl⟩)))))
    | _ => cases h; exact .inr (.inr (.inr (.inr (.inr (.inr ⟨rfl, by simp, by simp, _, rfl⟩)))))

/-- A run, step by step. -/
theorem run_succ {s t : State} (h : step s = .next t) (n : Nat) :
    Host.Core.run Sys2Proof.core (n + 1) s = Host.Core.run Sys2Proof.core n t := by
  simp only [Host.Core.run, core, h]

/-- A step whose input lets the RX unit proceed. -/
theorem step_receiverProceeds {s : State} {rest : List Input} (h : s.env.inputs = .receiverProceeds :: rest) :
    step s = .next (rxAdvance (s.setInputs rest)) := by
  simp only [step, happens, h, applyInput]

/-- A step that runs the instruction presented next. -/
theorem step_present {s : State} {what : Presented} {rest : List Input} {i : Instr}
    (h : s.env.inputs = .present what :: rest) (hd : decode what = .ok i) : step s = exec i (s.setInputs rest) := by
  simp only [step, happens, h, applyInput, present, hd]

end Sys2Proof.Machine
end

