-- ==== Sys2Proof/Tests/Slice0.lean ====
section
/-! SUPPORT. The model's own tests. The expected values are those of spec/95_test_vectors.md (the vector is named at each
test), and of 30_encoding for the encodings; the witnesses show that the hypotheses of the statements can be met. -/

namespace Sys2Proof.Tests

open Sys2Proof Sys2Proof.Machine

-- The tests are checked one after another: checked side by side, each would reserve a thread's whole stack.
set_option Elab.async false

/-! ### Data and helpers -/

/-- The next state, if there is one. -/
def nextOf (a : Answer) : Option State :=
  match a with
  | .next t => some t
  | .fault _ => none
  | .refused _ => none

/-- Why the answer is a refusal, if it is one. -/
def refusalOf (a : Answer) : Option Refusal :=
  match a with
  | .next _ => none
  | .fault _ => none
  | .refused r => some r

/-- What was handed out, in the next state. -/
def outputsOf (a : Answer) : Option (List Output) := (nextOf a).map (·.outputs)

def zeros16 : Vector U16 16 := Vector.replicate 16 0

def zeros4 : Vector U16 4 := Vector.replicate 4 0

/-- The record of the frame G of 95_test_vectors section 4 (V-ENC1). -/
def recordG : Record := ⟨zeros16, zeros4, 1000#32, 7#8, 0x0D#8⟩

/-- The bytes of G, as printed there. -/
def bytesG : List Byte := 0xAA#8 :: (List.replicate 40 0 ++ [0xE8#8, 0x03#8, 0x00#8, 0x00#8, 0x07#8, 0x0D#8, 0x55#8])

def frameG : Vector Byte 48 := ⟨bytesG.toArray, by decide⟩

/-- G without its header byte. -/
def restG : Vector Byte 47 := ⟨(bytesG.drop 1).toArray, by decide⟩

/-- The start state of section 6 with an idle line: configured, a consumer that returns, the clock at 1012. -/
def ready (line : List LineItem) : State :=
  { State.reset with
    configured := true
    consumerEn := true
    env := { Env.empty with rxLine := line, clock := [1012#32], consumerReturns := 1 } }

/-- A sender with an answer of its transmit primitive ready and the clock at 1000 (section 5). -/
def sender (txSeq : Byte) (answers : List WriteAnswer) : State :=
  { State.reset with
    txSeq := txSeq
    configured := true
    env := { Env.empty with writeAnswers := answers, clock := [1000#32] } }

def onLine (bytes : List Byte) : List LineItem := bytes.map .byte

/-- A receiver past its header (V-ST11 to V-ST13), with one of each statistic. -/
def inBody (line : List LineItem) : State :=
  { ready line with
    rxState := .awaitingFooter
    rxbuf := (Vector.replicate 48 0).set 0 0xAA#8
    stats := ⟨3, 5, 2, 9, 226885⟩
    expectedSeq := 10 }

/-- Everything in progress at once: a delivery of G, and a SEND of G that has consumed sequence number 7. -/
def busy : State :=
  { ready [] with
    txSeq := 8
    rxState := .validating
    rxbuf := frameG
    txbuf := frameG
    sending := true
    stage := .delivering }

/-- G is in the buffer of an attempt that nothing else overlaps, and the attempt has come to the given stage. -/
def accepting (stage : Stage) : State :=
  { ready [] with
    rxState := .validating
    rxbuf := frameG
    stage := stage }

/-- The snapshot a result shows, the cursor and the phase. -/
def registersOf (a : Answer) : Option (LinkStats × Byte × RxState) :=
  (nextOf a).map fun t => (t.stats, t.expectedSeq, t.rxState)

/-! ### Well-formedness -/

/-- The FRAME term of a record whose CRC is not that of its body is refused (30_encoding R79; V-DEC7). -/
theorem test_wellFormed_refuses_wrong_crc : (Instr.frame { recordG with crc := 0x0C#8 }).wellFormed = false := by
  decide +kernel

theorem test_wellFormed_accepts_G : (Instr.frame recordG).wellFormed = true := by decide +kernel

/-! ### Decoding: words written out from 30_encoding R76 (V-CMD1 to V-CMD12) and R70, R71 -/

theorem test_decode_crc8 : decodeTableWord 8 0b00000000 = some (.crc8 []) := by decide +kernel

theorem test_decode_encode : decodeTableWord 8 0b00000001 = some (.encode zeros16 zeros4 0 0) := by decide +kernel

theorem test_decode_decode : decodeTableWord 8 0b00000010 = some (.decode (Vector.replicate 48 0)) := by decide +kernel

theorem test_decode_configure : decodeTableWord 8 0b00000011 = some (.configure false) := by decide +kernel

theorem test_decode_send : decodeTableWord 8 0b00000100 = some (.send zeros16 zeros4 false) := by decide +kernel

theorem test_decode_setConsumer : decodeTableWord 8 0b00000101 = some (.setConsumer false) := by decide +kernel

theorem test_decode_tryReceive : decodeTableWord 8 0b00000110 = some (.tryReceive 0) := by decide +kernel

theorem test_decode_poll : decodeTableWord 8 0b00000111 = some .poll := by decide +kernel

theorem test_decode_getStats : decodeTableWord 8 0b00001000 = some .getStats := by decide +kernel

theorem test_decode_resetStats : decodeTableWord 8 0b00001001 = some .resetStats := by decide +kernel

/-- A command word's operands come from their ports (R77). -/
theorem test_decode_ports :
    decode (.command 0x06#8 { Ports.zero with timeoutMs := 50, chv := true }) = .ok (.tryReceive 50#32) := rfl

/-- V-CMD11, V-CMD12. -/
theorem test_decode_reserved :
    [0x0A, 0x0F, 0x10, 0x14, 0x80, 0xFF].map (decodeTableWord 8) = List.replicate 6 none := by decide +kernel

/-- The frame of V-ENC8 as one 384-bit word, header byte leftmost, as 95_test_vectors S2 row 2 prints it. -/
def wordENC8 : Nat :=
  0xAA0001010102010301040105010601070108010901_0A010B010C010D010E010F013412CDABAA55FFFF78563412A57B55

theorem test_decode_frame :
    decodeTableWord 384 wordENC8 = some (.frame ⟨Vector.ofFn fun i => BitVec.ofNat 16 (0x0100 + i.val),
      #v[0x1234#16, 0xABCD#16, 0x55AA#16, 0xFFFF#16], 0x12345678#32, 0xA5#8, 0x7B#8⟩) := by decide +kernel

/-- One bit of the header, of the sequence number (V-DEC9's kind) and of the footer. -/
theorem test_decode_frame_refused :
    [8 * 47, 8 * 2, 0].map (fun k => decodeTableWord 384 (wordENC8 ^^^ 2 ^ k)) = [none, none, none] := by
  decide +kernel

/-- The row's word is what the next step runs, also as the first thing after reset. -/
theorem test_withFetchWord_frame :
    (nextOf (step (State.reset.withFetchWord 384 wordENC8))).map (fun t => (t.env.rxLine.length, t.env.rxLine.take 3)) =
      some (48, onLine [0xAA#8, 0x00#8, 0x01#8]) := by decide +kernel

theorem test_withFetchWord_reserved : refusalOf (step (State.reset.withFetchWord 8 0x0A)) = some .reservedCommand := by
  decide +kernel

/-! ### The CRC engine -/

/-- V-CRC17 and V-CRC13. -/
theorem test_crc8 :
    outputsOf (exec (.crc8 [0x31, 0x32, 0x33, 0x34, 0x35, 0x36, 0x37, 0x38, 0x39]) State.reset) =
      some [.result (.crc8 0xF4#8)] := by decide +kernel

/-- V-CRC5, V-CRC6, V-CRC13, V-CRC16, V-CRC1. -/
theorem test_crc8_spans :
    [[0x80], [0xFF], [0xAA, 0x55], [0x01, 0x00, 0x15], []].map crc8 = [0x89#8, 0xF3#8, 0x36#8, 0x00#8, 0x00#8] := by
  decide +kernel

/-! ### The codec -/

/-- V-ENC8, every byte. -/
theorem test_encode :
    (nextOf (exec (.encode (Vector.ofFn fun i => BitVec.ofNat 16 (0x0100 + i.val))
      #v[0x1234#16, 0xABCD#16, 0x55AA#16, 0xFFFF#16] 0x12345678 0xA5) State.reset)).map (·.txbuf.toList) =
    some ((List.range 48).map (byteOfPattern wordENC8)) := by decide +kernel

theorem test_encode_refused : refusalOf (exec (.encode zeros16 zeros4 0 0) busy) = some .senderBusy := by decide +kernel

/-- V-DEC10: two bits 127 apart are not detected. -/
theorem test_decode_double_error :
    outputsOf (exec (.decode ((frameG.set 1 0x80).set 16 0x01)) State.reset) =
      some [.result (.decode (.ok { recordG with ir := (zeros16.set 0 0x0080).set 7 0x0100 }))] := by decide +kernel

/-- V-DEC1, V-DEC2, V-DEC4, V-DEC5, V-DEC6, V-DEC9. -/
theorem test_decode_order :
    [frameG, frameG.set 0 0xAB, (frameG.set 0 0xAB).set 47 0x54, (frameG.set 47 0x54).set 46 0x0C,
      (frameG.set 0 0x55).set 46 0x0C, frameG.set 45 0x06].map decodeFrame =
    [.ok recordG, .badHeader, .badHeader, .badFooter, .badHeader, .checksumMismatch] := by decide +kernel

/-! ### The sender -/

/-- V-TX6 with the clock at 0: the sequence number wraps and the frame is V-ENC4. -/
theorem test_send_wraps :
    (nextOf (exec (.send zeros16 zeros4 true) { sender 255 [.ok] with env.clock := [0] })).map
      (fun t => (t.txSeq, t.txbuf.toList.drop 41, t.sending)) =
    some (0, [0x00, 0x00, 0x00, 0x00, 0xFF, 0xF3, 0x55], false) := by decide +kernel

/-- V-TX3: the channel is tested before the readings. -/
theorem test_send_unconfigured :
    outputsOf (exec (.send zeros16 zeros4 false) State.reset) =
      some [.event .channelUnconfigured, .result (.send false)] := by decide +kernel

/-! ### The receiver -/

/-- V-RX13, with the snapshot of V-ST2. -/
theorem test_tryReceive_accepts :
    registersOf (exec (.tryReceive 10) (ready (onLine bytesG))) = some (⟨1, 6, 0, 0, 78643⟩, 8, .idle) := by
  decide +kernel

/-- V-RX12. -/
theorem test_tryReceive_crc_error :
    registersOf (exec (.tryReceive 10) (ready (onLine (bytesG.set 46 0x0C)))) = some (⟨0, 0, 1, 0, 0⟩, 0, .idle) := by
  decide +kernel

/-- V-RX5. -/
theorem test_poll_counts_timeout :
    registersOf (exec .poll (ready [.timeout false])) = some (⟨0, 0, 0, 1, 0⟩, 0, .idle) := by decide +kernel

/-- V-RX15: the record is delivered, no result comes out. -/
theorem test_poll_delivers :
    (outputsOf (exec .poll (ready (onLine bytesG)))).map (·.drop 2) = some [.now 1012, .deliver recordG] := by
  decide +kernel

/-- V-LOSS11, V-LOSS8, V-LOSS17, V-LOSS1. -/
theorem test_loss : [(5, 6), (0, 255), (228, 100), (0, 0)].map (fun p => lossOf p.1 p.2) = [254, 0, 127, 0] := by
  decide +kernel

/-- V-EWMA13, V-EWMA12, V-EWMA2, V-EWMA11. -/
theorem test_ewma :
    [ewma 281474976710655 4294967295, ewma 0 4294967295, ewma 0 1, ewma 11 0] =
      [281474976704101, 28147497664512, 6553, 9] := by decide +kernel

/-- V-RX17: the Sender's clock ahead. -/
theorem test_latency_wraps :
    (commit recordG 990 { ready [] with expectedSeq := 7 }).stats = ⟨1, 0, 0, 0, 28147497605529⟩ := by decide +kernel

/-! ### Statistics and configuration -/

/-- V-ST12. -/
theorem test_getStats_during_attempt :
    outputsOf (exec .getStats (inBody [])) = some [.result (.getStats ⟨3, 5, 2, 9, 226885⟩)] := by decide +kernel

/-- V-ST11. -/
theorem test_resetStats_during_attempt :
    registersOf (exec .resetStats (inBody [])) = some (⟨0, 0, 0, 0, 0⟩, 0, .awaitingFooter) := by decide +kernel

/-- V-ST7: not an initialisation. -/
theorem test_configure_is_no_initialisation :
    nextOf (exec (.configure true) { sender 2 [] with expectedSeq := 9 }) =
      some { sender 2 [] with expectedSeq := 9 } := by decide +kernel

/-- V-ST13. -/
theorem test_configure_refused : refusalOf (exec (.configure false) (inBody [])) = some .operationInProgress := by
  decide +kernel

/-- V-ST9. -/
theorem test_setConsumer :
    (nextOf (exec (.setConsumer true) State.reset)).map (·.consumerEn) = some true := by decide +kernel

/-- V-ST14. -/
theorem test_setConsumer_refused : refusalOf (exec (.setConsumer false) busy) = some .operationInProgress := by
  decide +kernel

/-- The event codes of 60_exceptions R190 and the register encoding of 10_state R25. -/
theorem test_codes :
    [Event.channelUnconfigured, .invalidInput, .timeout, .linkFault, .frameSyncFailure .footer, .checksumMismatch].map
      eventCode = [1, 2, 3, 4, 5, 6] ∧
    [RxState.idle, .awaitingHeader, .awaitingFooter, .validating].map rxStateCode = [0, 1, 2, 3] := by decide

/-! ### Witnesses: the hypotheses of the statements can be met, clause by clause -/

theorem witness_HardwareResetRegisters :
    ∃ (s : State) (rest : List Input), s.env.inputs = .hardwareReset :: rest ∧ s.rxState = .validating :=
  ⟨busy.setInputs [.hardwareReset], [], rfl, rfl⟩

theorem witness_StepKeepsInvariant : ∃ t, Inv busy ∧ step busy = .next t ∧ t ≠ busy := by
  refine ⟨_, ?_, rfl, by decide +kernel⟩
  constructor <;> decide +kernel

theorem witness_StepRunsDecodedInstruction_command :
    (busy.setInputs [.present (.command 0x07#8 Ports.zero)]).env.inputs = .present (.command 0x07#8 Ports.zero) :: [] ∧
      decode (.command 0x07#8 Ports.zero) = .ok .poll := ⟨rfl, rfl⟩

theorem witness_StepRunsDecodedInstruction_frame : decode (.frame frameG) = .ok (.frame recordG) := by decide +kernel

theorem witness_ReservedCommandWordsRefused :
    (∃ s : State, ∃ p rest, s.env.inputs = .present (.command 0x0A#8 p) :: rest) ∧ 10 ≤ (0x0A#8).toNat ∧
    (∃ s : State, ∃ p rest, s.env.inputs = .present (.command 0x09#8 p) :: rest) ∧ ¬ 10 ≤ (0x09#8).toNat :=
  ⟨⟨State.reset.setInputs [.present (.command 0x0A#8 Ports.zero)], _, _, rfl⟩, by decide,
    ⟨State.reset.setInputs [.present (.command 0x09#8 Ports.zero)], _, _, rfl⟩, by decide⟩

theorem witness_DecodeOfEncode : Instr.poll.wellFormed = true ∧ (Instr.frame recordG).wellFormed = true := by
  decide +kernel

theorem witness_EncodeOfDecode :
    decode (.command 0x09#8 Ports.zero) = .ok .resetStats ∧ decode (.frame frameG) = .ok (.frame recordG) := by
  decide +kernel

theorem witness_CrcIsLinear : [0x01#8].length = [0x02#8].length ∧ crc8 [0x03] = 0x09 := by decide +kernel

/-- V-CRC15 with the two extreme shifts. -/
theorem witness_CrcDetectsBursts :
    (0xFF#8 ≠ 0 ∧ 0 ≤ 8 ∧ crc8 ([] ++ 0x01#8 :: 0x07#8 :: []) = 0) ∧ (0x81#8 ≠ 0 ∧ 8 ≤ 8) := by decide +kernel

/-- V-DEC10 and V-DEC11 have 14 and 30 bytes between the two corrupted ones. -/
theorem witness_CrcMissesDoubleErrors :
    (List.replicate 14 (0 : Byte)).length = 14 ∧ (List.replicate 30 (0 : Byte)).length = 30 := by decide

theorem witness_EncodeCompletes : State.reset.sending = false ∧ busy.sending = true := ⟨rfl, rfl⟩

theorem witness_DecodeChecksInOrder :
    (frameG.set 0 0xAB)[0] ≠ 0xAA#8 ∧
    ((frameG.set 47 0x54)[0] = 0xAA#8 ∧ (frameG.set 47 0x54)[47] ≠ 0x55#8) ∧
    ((frameG.set 1 0x80)[0] = 0xAA#8 ∧ (frameG.set 1 0x80)[47] = 0x55#8 ∧
      crc8 (((frameG.set 1 0x80).toList.drop 1).take 45) ≠ (frameG.set 1 0x80)[46]) ∧
    (frameG[0] = 0xAA#8 ∧ frameG[47] = 0x55#8 ∧ crc8 ((frameG.toList.drop 1).take 45) = frameG[46]) := by
  decide +kernel

theorem witness_DecodeAssemblesFields :
    frameG[0] = 0xAA#8 ∧ frameG[47] = 0x55#8 ∧ crc8 ((frameG.toList.drop 1).take 45) = frameG[46] := by decide +kernel

theorem witness_SendCompletes :
    ((sender 7 [.ok]).sending = false ∧ (sender 7 [.ok]).configured = true ∧
      (sender 7 [.ok]).env.writeAnswers = .ok :: []) ∧
    ((sender 255 [.fail]).sending = false ∧ (sender 255 [.fail]).configured = true ∧
      (sender 255 [.fail]).env.writeAnswers = .fail :: []) := ⟨⟨rfl, rfl, rfl⟩, rfl, rfl, rfl⟩

theorem witness_SendPreconditionFailures :
    (State.reset.sending = false ∧ State.reset.configured = false) ∧
    ((sender 0 []).sending = false ∧ (sender 0 []).configured = true) := ⟨⟨rfl, rfl⟩, rfl, rfl⟩

theorem witness_SendWaitsForItsAnswer :
    (sender 0 []).sending = false ∧ (sender 0 []).configured = true ∧ (sender 0 []).env.writeAnswers = [] :=
  ⟨rfl, rfl, rfl⟩

theorem witness_SendConsumesOneSequenceNumber :
    (sender 255 []).sending = false ∧ (sender 255 []).configured = true ∧ (sender 255 [.fail]).sending = false :=
  ⟨rfl, rfl, rfl⟩

theorem witness_AttemptNeedsIdleAndChannel :
    attemptBudget (.tryReceive 10) = some 10 ∧ attemptBudget .poll = some 0 ∧ (inBody []).rxState ≠ .idle ∧
      State.reset.rxState = .idle ∧ State.reset.configured = false := by decide

/-- V-RX3, V-RX6, V-RX7 for both operations. -/
theorem witness_AttemptEndsInHeaderWait (line : List LineItem) :
    (attemptBudget (.tryReceive 10) = some 10 ∧ attemptBudget .poll = some 0) ∧
    ((ready line).rxState = .idle ∧ (ready line).configured = true) ∧
    chanRead 1 (ready [.timeout false]).env.rxLine = some (.timeout, []) ∧
    chanRead 1 (ready [.fault true]).env.rxLine = some (.fault, []) ∧
    (chanRead 1 (ready [.byte 0x13]).env.rxLine = some (.bytes #v[0x13], []) ∧ #v[0x13#8][0] ≠ 0xAA#8) :=
  ⟨⟨rfl, rfl⟩, ⟨rfl, rfl⟩, by decide +kernel, by decide +kernel, by decide +kernel, by decide⟩

/-- V-RX9 (46 of the 47 bytes there, lost or kept) and V-RX10 (none there). -/
theorem witness_AttemptEndsInBodyWait :
    chanRead 1 (ready (.byte 0xAA :: [.timeout false])).env.rxLine = some (.bytes #v[0xAA], [.timeout false]) ∧
    chanRead 47 (onLine (List.replicate 46 0x11) ++ [.timeout false]) = some (.timeout, []) ∧
    chanRead 47 (onLine (List.replicate 46 0x11) ++ [.timeout true]) =
      some (.timeout, onLine (List.replicate 46 0x11)) ∧
    chanRead 47 [.fault false] = some (.fault, []) := by decide +kernel

/-- V-RX11, V-RX12. -/
theorem witness_AttemptEndsInValidation :
    chanRead 1 (ready (onLine bytesG)).env.rxLine = some (.bytes #v[0xAA], onLine (bytesG.drop 1)) ∧
    (chanRead 47 (onLine ((restG.set 46 0x54).toList)) = some (.bytes (restG.set 46 0x54), []) ∧
      (restG.set 46 0x54)[46] ≠ 0x55#8) ∧
    (chanRead 47 (onLine ((restG.set 45 0x0C).toList)) = some (.bytes (restG.set 45 0x0C), []) ∧
      (restG.set 45 0x0C)[46] = 0x55#8 ∧
      crc8 ((restG.set 45 0x0C).toList.take 45) ≠ (restG.set 45 0x0C)[45]) := by decide +kernel

/-- V-RX13, V-RX14, and a consumer that has not returned yet. -/
theorem witness_AttemptAcceptsFrame :
    (chanRead 1 (ready (onLine bytesG)).env.rxLine = some (.bytes #v[0xAA], onLine (bytesG.drop 1)) ∧
      chanRead 47 (onLine (bytesG.drop 1)) = some (.bytes restG, []) ∧ restG[46] = 0x55#8 ∧
      crc8 (restG.toList.take 45) = restG[45]) ∧
    ({ ready (onLine bytesG) with consumerEn := false } : State).consumerEn = false ∧
    ((ready (onLine bytesG)).consumerEn = true ∧ (ready (onLine bytesG)).env.consumerReturns = 0 + 1) ∧
    ({ ready (onLine bytesG) with env.consumerReturns := 0 } : State).env.consumerReturns = 0 := by decide +kernel

theorem witness_AttemptWaitsForItsAnswer :
    chanRead 1 (ready []).env.rxLine = none ∧
    (chanRead 1 (ready (onLine (bytesG.take 47))).env.rxLine = some (.bytes #v[0xAA], onLine ((bytesG.take 47).drop 1)) ∧
      chanRead 47 (onLine ((bytesG.take 47).drop 1)) = none) := by decide +kernel

theorem witness_PollIsZeroTimeoutAttempt : (ready (onLine bytesG)).rxState = .idle ∧ (ready []).rxState = .idle :=
  ⟨rfl, rfl⟩

/-- The rows of V-RX3 to V-RX14, each at a state that fires it, and the four parts of the accepting row. -/
theorem witness_ReceiverTransitionTable :
    (attemptBudget .poll = some 0 ∧ (ready []).rxState = .idle ∧ (ready []).configured = true ∧
      (inBody []).rxState ≠ .idle) ∧
    [chanRead 1 [.timeout false], chanRead 1 [.fault true], chanRead 1 [.byte 0xAA], chanRead 1 [.byte 0x55],
      chanRead 1 []] =
      [some (.timeout, []), some (.fault, []), some (.bytes #v[0xAA], []), some (.bytes #v[0x55], []), none] ∧
    [chanRead 47 [.timeout false], chanRead 47 [.fault true], chanRead 47 (onLine (bytesG.drop 1)), chanRead 47 []] =
      [some (.timeout, []), some (.fault, []), some (.bytes restG, []), none] ∧
    ((frameG.set 47 0x54)[0] = 0xAA#8 ∧ (frameG.set 47 0x54)[47] ≠ 0x55#8) ∧
    ((frameG.set 46 0x0C)[0] = 0xAA#8 ∧ (frameG.set 46 0x0C)[47] = 0x55#8 ∧
      crc8 (((frameG.set 46 0x0C).toList.drop 1).take 45) ≠ (frameG.set 46 0x0C)[46]) ∧
    ((accepting .checking).rxbuf[0] = 0xAA#8 ∧ (accepting .checking).rxbuf[47] = 0x55#8 ∧
      crc8 ((frameG.toList.drop 1).take 45) = frameG[46]) ∧
    [accepting (.timed 1012), accepting .committed, accepting .delivering].map (fun s => (s.rxState, s.stage)) =
      [(.validating, .timed 1012), (.validating, .committed), (.validating, .delivering)] := by decide +kernel

/-- The accepting row, part by part: the clock read, the commit of V-ST2, the delivery, the return. -/
theorem test_accepting_row :
    rxAdvance (accepting .checking) =
      { accepting (.timed 1012) with clockReads := 1, env.clock := [], outputs := [.now 1012] } ∧
    rxAdvance (accepting (.timed 1012)) =
      { accepting .committed with stats := ⟨1, 6, 0, 0, 78643⟩, expectedSeq := 8 } ∧
    rxAdvance (accepting .committed) = { accepting .delivering with outputs := [.deliver recordG] } ∧
    (rxAdvance (accepting .delivering)).rxState = .idle := by decide +kernel

theorem witness_AttemptRaisesAtMostOneEvent :
    (∃ t, attemptBudget .poll = some 0 ∧ exec .poll (ready [.byte 0x13]) = .next t ∧
      .event (.frameSyncFailure .header) ∈ t.outputs) ∧
    .event .timeout ∈ (rxAdvance (inBody [.timeout false])).outputs := ⟨⟨_, rfl, rfl, by decide +kernel⟩, by decide +kernel⟩

/-- V-RX7, and the footer mismatch of V-RX11 as a transition of an attempt in progress. -/
theorem witness_SyncFailuresAreNotCounted :
    (∃ t, exec (.tryReceive 10) (ready [.byte 0x13]) = .next t ∧
      t.outputs = (ready [.byte 0x13]).outputs ++
        [.chanRead 1 10, .event (.frameSyncFailure .header), .result (.tryReceive .noData)]) ∧
    (rxAdvance { inBody [] with rxState := .validating }).outputs =
      (inBody []).outputs ++ [.event (.frameSyncFailure .footer), .result (.tryReceive .noData)] :=
  ⟨⟨_, rfl, by decide +kernel⟩, by decide +kernel⟩

theorem witness_ValidFrameMovesTheCursor :
    (attemptBudget .poll = some 0 ∧ (ready (onLine bytesG)).rxState = .idle ∧
      (ready (onLine bytesG)).configured = true ∧ (ready (onLine bytesG)).env.rxLine = frameG.toList.map .byte ++ []) ∧
    (frameG[0] = 0xAA#8 ∧ frameG[47] = 0x55#8 ∧ crc8 ((frameG.toList.drop 1).take 45) = frameG[46]) ∧
    1 < (frameG[45] - (ready []).expectedSeq).toNat ∧
    (frameG[45] - ({ ready [] with expectedSeq := 6 } : State).expectedSeq).toNat ≤ 1 := by decide +kernel

/-- V-LOSS15: the largest gap; and no gap at all. -/
theorem witness_LossByGap :
    (255 < 256 ∧ (0#8 : Byte) = ({ State.reset with expectedSeq := 1 } : State).expectedSeq + BitVec.ofNat 8 255) ∧
    (0 < 256 ∧ (7#8 : Byte) = ({ State.reset with expectedSeq := 7 } : State).expectedSeq + BitVec.ofNat 8 0) := by
  decide

theorem witness_FalseHeaderCostsTheFrame :
    attemptBudget (.tryReceive 5) = some 5 ∧
    (∀ line, (ready line).rxState = .idle ∧ (ready line).configured = true ∧ (ready line).env.rxLine = line) ∧
    recordG.crc ≠ 0x55#8 := ⟨rfl, fun _ => ⟨rfl, rfl, rfl⟩, by decide⟩

theorem witness_ResetStatsDuringAttempt :
    let s : State := { inBody (onLine (bytesG.drop 1)) with consumerEn := false }
    s.rxState = .awaitingFooter ∧ s.rxbuf[0] = 0xAA#8 ∧ s.stage = .checking ∧ s.consumerEn = false ∧
      chanRead 47 s.env.rxLine = some (.bytes restG, []) ∧ restG[46] = 0x55#8 ∧
      crc8 (restG.toList.take 45) = restG[45] ∧
      (s.setInputs (.present (.command 0x09#8 Ports.zero) :: List.replicate 4 .receiverProceeds)).env.inputs =
        .present (.command 0x09#8 Ports.zero) :: (List.replicate 4 .receiverProceeds ++ []) := by decide +kernel

theorem witness_OperationsDuringDelivery :
    ({ busy with sending := false } : State).rxState = .validating ∧ ({ busy with sending := false } : State).stage = .delivering ∧
      ({ busy with sending := false } : State).sending = false := ⟨rfl, rfl, rfl⟩

/-- 48 bytes that are no valid frame, and 48 that are. -/
theorem witness_FrameArrives :
    (∃ e, decode (.frame (frameG.set 0 0xAB)) = .error e) ∧ decode (.frame frameG) = .ok (.frame recordG) ∧
    ∀ bytes, (busy.setInputs [.present (.frame bytes)]).env.inputs = .present (.frame bytes) :: [] :=
  ⟨⟨_, rfl⟩, by decide +kernel, fun _ => rfl⟩

theorem witness_ConfigurationCompletes :
    (State.reset.rxState = .idle ∧ State.reset.sending = false) ∧ (inBody []).rxState ≠ .idle ∧
      (({ sender 1 [] with sending := true } : State).sending = true ∧
        ({ sender 1 [] with sending := true } : State).rxState = .idle) := by decide

theorem witness_OperationsRefusedExactlyWhenBusy :
    ¬ mustWait .poll State.reset ∧ mustWait .poll busy ∧ mustWait (.configure true) { sender 0 [] with sending := true } ∧
      ¬ mustWait .getStats busy :=
  ⟨by simp [mustWait, State.reset], by simp [mustWait, busy], by simp [mustWait], by simp [mustWait]⟩

theorem witness_IdleBlockWaits :
    State.reset.rxState = .idle ∧ State.reset.sending = false ∧ State.reset.env.inputs = [] := ⟨rfl, rfl, rfl⟩

/-- A command word with its ports as the one input of a state. -/
def given (cmd : Byte) (p : Ports) (s : State) : State := s.setInputs [.present (.command cmd p)]

/-- The three kinds of step: a hardware reset, a SEND that passes its checks, a step that runs nothing. -/
theorem witness_TxSeqWrittenOnlyBySend :
    (∃ t, exec (.send zeros16 zeros4 true) (sender 255 [.fail]) = .next t ∧ t.txSeq = 0) ∧
    (∃ t, exec .poll (sender 255 []) = .next t) ∧
    (∃ t, step (busy.setInputs [.hardwareReset]) = .next t ∧ (busy.setInputs [.hardwareReset]).isReset) ∧
    (∃ t, step (given 0x04 { Ports.zero with rdv := true } (sender 255 [])) = .next t ∧
      (given 0x04 { Ports.zero with rdv := true } (sender 255 [])).runs = some (.send zeros16 zeros4 true) ∧
      (sender 255 []).configured = true ∧ t.sending = true) ∧
    (∃ t, step busy = .next t ∧ ¬ busy.isReset ∧ busy.runs = none) :=
  ⟨⟨_, rfl, by decide +kernel⟩, ⟨_, rfl⟩, ⟨_, rfl, rfl⟩, ⟨_, rfl, rfl, rfl, by decide +kernel⟩,
    ⟨_, rfl, by simp [State.isReset, busy, ready, Env.empty], rfl⟩⟩

/-- RESET_STATS in a step, and a step that runs nothing and in which no attempt goes on. -/
theorem witness_StatisticsOwnedByReceiver :
    (∃ t, exec (.configure true) (sender 0 []) = .next t ∧ attemptBudget (.configure true) = none ∧
      Instr.configure true ≠ .resetStats) ∧
    (∃ t, step (given 0x09 Ports.zero (inBody [])) = .next t ∧
      (given 0x09 Ports.zero (inBody [])).runs = some .resetStats) ∧
    (∃ t, step (busy.setInputs [.senderProceeds]) = .next t ∧ ¬ (busy.setInputs [.senderProceeds]).isReset ∧
      (busy.setInputs [.senderProceeds]).runs = none ∧ ¬ (busy.setInputs [.senderProceeds]).attemptGoesOn) :=
  ⟨⟨_, rfl, rfl, by decide⟩, ⟨_, rfl, rfl⟩,
    ⟨_, rfl, by simp [State.isReset, State.setInputs], rfl, by simp [State.attemptGoesOn, State.setInputs]⟩⟩

theorem witness_ConfigurationBitsOwned :
    (∃ t, exec (.setConsumer true) State.reset = .next t ∧ t ≠ State.reset) ∧
    (∃ t, step (given 0x03 { Ports.zero with chv := true } State.reset) = .next t ∧
      (given 0x03 { Ports.zero with chv := true } State.reset).runs = some (.configure true)) ∧
    (∃ t, step (busy.setInputs [.hardwareReset]) = .next t ∧ (busy.setInputs [.hardwareReset]).isReset) :=
  ⟨⟨_, rfl, by decide +kernel⟩, ⟨_, rfl, rfl⟩, ⟨_, rfl, rfl⟩⟩

/-- A step for each change of the statistics: a whole attempt in one step (V-RX13), a timeout and a CRC error counted, the
commit of an attempt in progress, the two zeroings. -/
theorem witness_StatisticsChangeAtomically :
    (Inv (given 0x07 Ports.zero (ready (onLine bytesG))) ∧
      ∃ t, step (given 0x07 Ports.zero (ready (onLine bytesG))) = .next t ∧ t.stats.packetsReceived = 1 ∧
        t.expectedSeq = 8) ∧
    (Inv (inBody [.timeout false]) ∧ ∃ t, step (inBody [.timeout false]) = .next t ∧ t.stats.timeouts = 10) ∧
    (Inv { inBody [] with rxState := .validating, rxbuf := frameG.set 46 0x0C } ∧
      ∃ t, step { inBody [] with rxState := .validating, rxbuf := frameG.set 46 0x0C } = .next t ∧
        t.stats.crcErrors = 3) ∧
    (Inv (accepting (.timed 1012)) ∧ ∃ t, step (accepting (.timed 1012)) = .next t ∧ t.stats.packetsReceived = 1) ∧
    (Inv busy ∧ (given 0x09 Ports.zero busy).runs = some .resetStats ∧ (busy.setInputs [.hardwareReset]).isReset) := by
  refine ⟨⟨?_, _, rfl, by decide +kernel⟩, ⟨?_, _, rfl, by decide +kernel⟩, ⟨?_, _, rfl, by decide +kernel⟩,
      ⟨?_, _, rfl, by decide +kernel⟩, ?_, rfl, rfl⟩ <;>
    constructor <;> decide +kernel

theorem witness_OutputsOnlyGrow : ∃ t, step busy = .next t ∧ busy.outputs ≠ t.outputs := ⟨_, rfl, by decide +kernel⟩

/-- V-RX13 with the operations at the three places. -/
theorem witness_OperationsFallBetweenSteps (inputs : List Input) :
    ((accepting .checking).setInputs inputs).rxState = .validating ∧
    ((accepting .checking).setInputs inputs).stage = .checking ∧
    decodeFrame ((accepting .checking).setInputs inputs).rxbuf = .ok recordG ∧
    ((accepting .checking).setInputs inputs).env.inputs = inputs :=
  ⟨rfl, rfl, (by decide +kernel : decodeFrame frameG = .ok recordG), rfl⟩

/-- V-RX13 from its header wait on, with a consumer that returns and with none, at the first and the last place. -/
theorem witness_OperationsFallAnywhereInAttempt :
    (∀ en : Bool, ∃ s : State, s.rxState = .awaitingHeader ∧ s.stage = .checking ∧ s.consumerEn = en ∧
      (s.consumerEn = true → s.env.consumerReturns ≠ 0) ∧ s.env.rxLine = frameG.toList.map .byte ++ []) ∧
    decodeFrame frameG = .ok recordG ∧ 0 ≤ 6 ∧ 6 ≤ 6 :=
  ⟨fun en => ⟨{ ready (onLine bytesG) with rxState := .awaitingHeader, consumerEn := en }, rfl, rfl, rfl,
    fun _ => Nat.one_ne_zero, rfl⟩, by decide +kernel, by decide, by decide⟩

/-- V-TX7 into V-RX13: the sender's frame is G, and G is what is on the receiver's line. -/
theorem witness_LinkEndToEnd :
    ((sender 7 [.ok]).sending = false ∧ (sender 7 [.ok]).configured = true ∧
      (sender 7 [.ok]).env.writeAnswers = .ok :: []) ∧
    ((ready (onLine bytesG)).rxState = .idle ∧ (ready (onLine bytesG)).configured = true ∧
      (ready (onLine bytesG)).consumerEn = true ∧ (ready (onLine bytesG)).env.consumerReturns = 0 + 1) ∧
    encodeFrame zeros16 zeros4 (sender 7 [.ok]).nowAnswer (sender 7 [.ok]).txSeq = frameG ∧
    (ready (onLine bytesG)).env.rxLine = frameG.toList.map .byte ++ [] := by decide +kernel

end Sys2Proof.Tests
end

/-! PROOFS. Who writes `tx_seq` (10_state R26): first what the guarded operations answer, then `tx_seq` through
an instruction, then through a step. -/

namespace Sys2Proof.Machine

variable {s t : State}

/-! ### Answers of the guarded operations -/

theorem execEncode_eq_next_iff {ir : Vector U16 16} {us : Vector U16 4} {timestamp : U32} {sequence : Byte} :
    execEncode ir us timestamp sequence s = .next t ↔
      s.sending = false ∧ t = { s with txbuf := encodeFrame ir us timestamp sequence }.emit
        (.result (.encode (encodeFrame ir us timestamp sequence))) := by
  cases hs : s.sending <;> simp [execEncode, hs, eq_comm]

theorem execConfigure_eq_next_iff {chv : Bool} :
    execConfigure chv s = .next t ↔ s.inOperation = false ∧ t = { s with configured := chv } := by
  cases hs : s.inOperation <;> simp [execConfigure, hs, eq_comm]

theorem execSetConsumer_eq_next_iff {en : Bool} :
    execSetConsumer en s = .next t ↔ s.inOperation = false ∧ t = { s with consumerEn := en } := by
  cases hs : s.inOperation <;> simp [execSetConsumer, hs, eq_comm]

/-! ### `SEND` -/

/-- A transition of the TX unit takes back no output. -/
theorem txAdvance_outputs_prefix (s : State) : s.outputs <+: (txAdvance s).outputs := by
  rcases txAdvance_cases s with h | ⟨_, rest, _, h⟩ | ⟨_, rest, _, h⟩ <;> rw [h] <;> simp

/-- From `s` to `t` one sequence number is used up: the counter is one higher, and a frame with its old value was handed to
`ChanWrite` (42_sender R129, R130). -/
def ConsumesSeq (s t : State) : Prop :=
  t.txSeq = s.txSeq + 1 ∧
    ∃ f : Vector Byte 48, f[45] = s.txSeq ∧ .chanWrite f Config.tTxMs ∈ t.outputs.drop s.outputs.length

theorem beginSend_consumesSeq (ir : Vector U16 16) (us : Vector U16 4) (s : State) :
    ConsumesSeq s (beginSend ir us s) :=
  ⟨rfl, encodeFrame ir us s.nowAnswer s.txSeq, frameOfRecord_sequence _, by simp⟩

/-- What the TX unit does afterwards does not take the sequence number back. -/
theorem ConsumesSeq.txAdvance (h : ConsumesSeq s t) : ConsumesSeq s (txAdvance t) := by
  obtain ⟨hseq, f, hf, hmem⟩ := h
  obtain ⟨htx, -⟩ := txAdvance_frame t
  exact ⟨htx.trans hseq, f, hf, ((txAdvance_outputs_prefix t).drop _).subset hmem⟩

theorem execSend_consumesSeq {ir : Vector U16 16} {us : Vector U16 4} (hc : s.configured = true)
    (h : execSend ir us true s = .next t) : ConsumesSeq s t := by
  rcases execSend_cases ir us true s with ⟨_, h'⟩ | ⟨_, hc', _⟩ | ⟨_, _, hv, _⟩ | ⟨_, _, _, h'⟩
  · rw [h'] at h; cases h
  · simp [hc] at hc'
  · cases hv
  · rw [h'] at h; cases h
    exact (beginSend_consumesSeq ir us s).txAdvance

/-- A `SEND` that fails a check leaves the counter (42_sender R126). -/
theorem execSend_txSeq_of_fails {ir : Vector U16 16} {us : Vector U16 4} {rdv : Bool}
    (hn : ¬ (rdv = true ∧ s.configured = true)) (h : execSend ir us rdv s = .next t) : t.txSeq = s.txSeq := by
  rcases execSend_cases ir us rdv s with ⟨_, h'⟩ | ⟨_, _, h'⟩ | ⟨_, _, _, h'⟩ | ⟨_, hc, hv, _⟩
  · rw [h'] at h; cases h
  · rw [h'] at h; cases h; rfl
  · rw [h'] at h; cases h; rfl
  · exact absurd ⟨hv, hc⟩ hn

/-! ### Attempts -/

theorem rxAdvance_txSeq (s : State) : (rxAdvance s).txSeq = s.txSeq := (rxAdvance_frame s).1

theorem txAdvance_txSeq (s : State) : (txAdvance s).txSeq = s.txSeq := (txAdvance_frame s).1

theorem runAttempt_txSeq (s : State) : (runAttempt s).txSeq = s.txSeq :=
  runAttempt_induction (P := fun u => u.txSeq = s.txSeq) (fun u hu => (rxAdvance_txSeq u).trans hu) rfl

theorem attempt_txSeq {timeoutMs : U32} {byPoll : Bool} (h : attempt timeoutMs byPoll s = .next t) :
    t.txSeq = s.txSeq := by
  rcases attempt_cases timeoutMs byPoll s with ⟨_, h'⟩ | ⟨_, _, h'⟩ | ⟨_, _, h'⟩ <;> rw [h'] at h <;> cases h
  · rfl
  · exact runAttempt_txSeq _

/-! ### Instructions and steps -/

/-- The instruction is a `SEND` whose two checks succeed in `s` (42_sender R126). -/
def SendPasses (i : Instr) (s : State) : Prop := (∃ ir us, i = .send ir us true) ∧ s.configured = true

theorem exec_consumesSeq {i : Instr} (hp : SendPasses i s) (h : exec i s = .next t) : ConsumesSeq s t := by
  obtain ⟨⟨ir, us, rfl⟩, hc⟩ := hp
  exact execSend_consumesSeq hc h

theorem exec_txSeq {i : Instr} (hn : ¬ SendPasses i s) (h : exec i s = .next t) : t.txSeq = s.txSeq := by
  cases i with
  | crc8 | decode | getStats | resetStats | frame => cases h; rfl
  | encode => obtain ⟨-, rfl⟩ := execEncode_eq_next_iff.mp h; rfl
  | configure => obtain ⟨-, rfl⟩ := execConfigure_eq_next_iff.mp h; rfl
  | setConsumer => obtain ⟨-, rfl⟩ := execSetConsumer_eq_next_iff.mp h; rfl
  | tryReceive | poll => exact attempt_txSeq h
  | send ir us rdv =>
    refine execSend_txSeq_of_fails ?_ h
    rintro ⟨rfl, hc⟩
    exact hn ⟨⟨ir, us, rfl⟩, hc⟩

/-- A step as `tx_seq` sees it: a reset clears it, an instruction runs, or nothing runs and it stays. -/
theorem step_txSeq_cases (h : step s = .next t) :
    (s.isReset ∧ t.txSeq = 0) ∨
    (∃ i, s.runs = some i ∧ exec i (s.setInputs s.env.inputs.tail) = .next t) ∨
    (s.runs = none ∧ ¬ s.isReset ∧ t.txSeq = s.txSeq) := by
  rcases step_cases h with ⟨hi, rfl⟩ | hrun | ⟨bytes, rest, hi, hr, rfl⟩ | ⟨rest, hi, rfl⟩ | ⟨rest, hi, rfl⟩ |
    ⟨rest, hi, rfl⟩ | ⟨hr, hn, _, env, rfl⟩
  · exact .inr (.inr (by simp [State.runs, State.isReset, hi, txAdvance_txSeq, rxAdvance_txSeq]))
  · exact .inr (.inl hrun)
  · exact .inr (.inr ⟨hr, by simp [State.isReset, hi], rfl⟩)
  · exact .inr (.inr (by simp [State.runs, State.isReset, hi, rxAdvance_txSeq]))
  · exact .inr (.inr (by simp [State.runs, State.isReset, hi, txAdvance_txSeq]))
  · exact .inl ⟨by simp [State.isReset, hi], rfl⟩
  · exact .inr (.inr ⟨hr, hn, rfl⟩)

theorem step_reset_txSeq (h : step s = .next t) (hr : s.isReset) : t.txSeq = 0 := by
  rcases step_txSeq_cases h with ⟨_, h0⟩ | ⟨i, hi, _⟩ | ⟨_, hn, _⟩
  · exact h0
  · exact absurd hr (State.runs_only hi).1
  · exact absurd hr hn

theorem step_consumesSeq {i : Instr} (h : step s = .next t) (hi : s.runs = some i) (hp : SendPasses i s) :
    ConsumesSeq s t := by
  rcases step_txSeq_cases h with ⟨hr, _⟩ | ⟨j, hj, he⟩ | ⟨hn, _⟩
  · exact absurd hr (State.runs_only hi).1
  · obtain rfl : j = i := Option.some.inj (hj.symm.trans hi)
    exact exec_consumesSeq (s := s.setInputs s.env.inputs.tail) hp he
  · simp [hi] at hn

theorem step_txSeq (h : step s = .next t) (hr : ¬ s.isReset) (hn : ∀ i, s.runs = some i → ¬ SendPasses i s) :
    t.txSeq = s.txSeq := by
  rcases step_txSeq_cases h with ⟨hr', _⟩ | ⟨i, hi, he⟩ | ⟨_, _, hseq⟩
  · exact absurd hr' hr
  · exact exec_txSeq (s := s.setInputs s.env.inputs.tail) (hn i hi) he
  · exact hseq

end Sys2Proof.Machine

namespace Sys2Proof.Proofs

open Sys2Proof.Machine

/-- Settles O49: `SEND` is the only arm of `exec` that writes `tx_seq` (`exec_txSeq`), and a step changes it only through a
reset or through the instruction it runs (`step_txSeq_cases`). -/
theorem txSeqWrittenOnlyBySend : Obligations.TxSeqWrittenOnlyBySend := by
  refine ⟨rfl, fun i s t h => ⟨fun hp => exec_consumesSeq hp h, fun hn => exec_txSeq hn h⟩,
    fun s t h => ⟨step_reset_txSeq h, ?_, fun hr hn => step_txSeq h hr ?_⟩⟩
  · rintro ⟨⟨ir, us, hi⟩, hc⟩
    exact step_consumesSeq h hi ⟨⟨ir, us, rfl⟩, hc⟩
  · rintro _ hi ⟨⟨ir, us, rfl⟩, hc⟩
    exact hn ⟨⟨ir, us, hi⟩, hc⟩

end Sys2Proof.Proofs

/-! PROOFS. The layout of a frame (30_encoding R70). -/

namespace Sys2Proof.Machine

theorem recordBytes_length (r : Record) : (recordBytes r).length = 46 := by
  simp [recordBytes, body_length]

/-- Record offset `k` is frame offset `k + 1` (30_encoding R71). -/
theorem frameOfRecord_getElem?_succ (r : Record) {k : Nat} (hk : k < 46) :
    (frameOfRecord r)[k + 1]? = (recordBytes r)[k]? := by
  have hlen : k < (recordBytes r).length := hk.trans_eq (recordBytes_length r).symm
  calc (frameOfRecord r)[k + 1]?
    _ = (frameBytes r)[k + 1]? := by rw [← frameOfRecord_toList, Vector.getElem?_toList]
    _ = (recordBytes r ++ [Config.footerByte])[k]? := List.getElem?_cons_succ
    _ = (recordBytes r)[k]? := List.getElem?_append_left hlen

end Sys2Proof.Machine

namespace Sys2Proof.Proofs

open Sys2Proof.Machine

/-- Settles O45: the bytes of a frame are `frameBytes` (`frameOfRecord_toList`), and what `ENCODE` builds is the frame of
its sealed record. -/
theorem frameIsHeaderRecordFooter : Obligations.FrameIsHeaderRecordFooter :=
  ⟨fun r => ⟨recordBytes_length r, frameOfRecord_toList r, fun k => frameOfRecord_getElem?_succ r k.isLt⟩,
    fun ir us timestamp sequence =>
      ⟨sealRecord ir us timestamp sequence, frameOfRecord_toList (sealRecord ir us timestamp sequence)⟩⟩

end Sys2Proof.Proofs

/-! PROOFS. The CRC operation and the recursion of the CRC (40_crc R101 to R104). -/

namespace Sys2Proof.Machine

/-- The byte step is the exclusive-or and eight bit steps (40_crc R102). -/
theorem byteStep_eq_iterate (a b : Byte) : byteStep a b = crcStep^[8] (a ^^^ b) := rfl

/-- The span one byte longer, by the bit step (40_crc R103). -/
theorem crc8_snoc_eq_iterate (s : List Byte) (b : Byte) : crc8 (s ++ [b]) = crcStep^[8] (crc8 s ^^^ b) := by
  rw [crc8_snoc, byteStep_eq_iterate]

@[simp] theorem byteStep_self (a : Byte) : byteStep a a = 0 := (byteStep_eq_zero_iff a a).mpr rfl

/-- A span of zero bytes leaves the initial value as it is. -/
@[simp] theorem crc8_replicate_zero (n : Nat) : crc8 (List.replicate n 0) = 0 := by
  induction n with
  | zero => rfl
  | succ n ih => rw [List.replicate_succ', crc8_snoc, ih, byteStep_self]

/-- The operation of code 0 is `CRC8` of the span on its port (30_encoding R76, R77). -/
theorem decode_command_zero (p : Ports) : decode (.command 0x00#8 p) = .ok (.crc8 p.span) := rfl

theorem exec_crc8 (span : List Byte) (s : State) :
    exec (.crc8 span) s = .next (s.emit (.result (.crc8 (crc8 span)))) := rfl

end Sys2Proof.Machine

namespace Sys2Proof.Proofs

open Sys2Proof.Machine

/-- Settles O10: the statement's bit step is `crcStep` unfolded, so one more byte is `crc8_snoc_eq_iterate`; zero bytes alone
are the induction of `crc8_replicate_zero`. -/
theorem crc8Completes : Obligations.Crc8Completes := fun span s p =>
  ⟨decode_command_zero { p with span := span }, exec_crc8 span s, crc8_nil, crc8_snoc_eq_iterate span,
    crc8_replicate_zero, by decide⟩

end Sys2Proof.Proofs

/-! PROOFS. The codec's laws (41_codec R115, R118): the bytes of a record by field, the record read back from its frame,
and the order of the checks. -/

namespace Sys2Proof.Machine

/-! ### The bytes of the body by field (30_encoding R72) -/

section

variable (ir : Vector U16 16) (us : Vector U16 4) (timestamp : U32) (sequence : Byte)

theorem body_getElem?_ir {i : Nat} (hi : i < 16) :
    (body ir us timestamp sequence)[2 * i]? = some (ir[i].extractLsb' 0 8) ∧
    (body ir us timestamp sequence)[2 * i + 1]? = some (ir[i].extractLsb' 8 8) := by
  have hir : (ir.toList.flatMap le16).length = 32 := by simp only [flatMap_le16_length, Vector.length_toList]
  have hbytes := flatMap_le16_getElem? ir.toList i (by simpa using hi)
  rw [Vector.getElem_toList] at hbytes
  simp only [body, List.append_assoc]
  rwa [List.getElem?_append_left (by omega), List.getElem?_append_left (by omega)]

theorem body_getElem?_us {j : Nat} (hj : j < 4) :
    (body ir us timestamp sequence)[32 + 2 * j]? = some (us[j].extractLsb' 0 8) ∧
    (body ir us timestamp sequence)[32 + (2 * j + 1)]? = some (us[j].extractLsb' 8 8) := by
  have hir : (ir.toList.flatMap le16).length = 32 := by simp only [flatMap_le16_length, Vector.length_toList]
  have hus : (us.toList.flatMap le16).length = 8 := by simp only [flatMap_le16_length, Vector.length_toList]
  have hbytes := flatMap_le16_getElem? us.toList j (by simpa using hj)
  rw [Vector.getElem_toList] at hbytes
  simp only [body, List.append_assoc, ← hir, List.getElem?_append_right (Nat.le_add_right _ _), Nat.add_sub_cancel_left]
  rwa [List.getElem?_append_left (by omega), List.getElem?_append_left (by omega)]

theorem body_getElem?_timestamp {k : Nat} (hk : k < 4) :
    (body ir us timestamp sequence)[40 + k]? = (le32 timestamp)[k]? := by
  have hlen : (ir.toList.flatMap le16 ++ us.toList.flatMap le16).length = 40 := by
    simp only [List.length_append, flatMap_le16_length, Vector.length_toList]
  rw [body, List.append_assoc _ (le32 timestamp), ← hlen, List.getElem?_append_right (Nat.le_add_right _ _),
    Nat.add_sub_cancel_left, List.getElem?_append_left hk]

end

/-! ### The same bytes by frame offset (30_encoding R71) -/

/-- A byte of the body, found at offset `k`, stands at frame offset `k + 1`. -/
theorem frameOfRecord_getElem_of_body (r : Record) {k : Nat} (hk : k < 45) {b : Byte}
    (h : (body r.ir r.us r.timestamp r.sequence)[k]? = some b) : (frameOfRecord r)[k + 1] = b := by
  have hlen : k < (body r.ir r.us r.timestamp r.sequence).length := hk.trans_eq (body_length ..).symm
  apply Option.some.inj
  calc some (frameOfRecord r)[k + 1]
    _ = (frameOfRecord r)[k + 1]? := (Vector.getElem?_eq_getElem _).symm
    _ = (recordBytes r)[k]? := frameOfRecord_getElem?_succ r (by omega)
    _ = (body r.ir r.us r.timestamp r.sequence)[k]? := List.getElem?_append_left hlen
    _ = some b := h

theorem frameOfRecord_ir (r : Record) {i : Nat} (hi : i < 16) :
    (frameOfRecord r)[2 * i + 1] = r.ir[i].extractLsb' 0 8 ∧
    (frameOfRecord r)[2 * i + 2] = r.ir[i].extractLsb' 8 8 := by
  obtain ⟨hlo, hhi⟩ := body_getElem?_ir r.ir r.us r.timestamp r.sequence hi
  exact ⟨frameOfRecord_getElem_of_body r (by omega) hlo, frameOfRecord_getElem_of_body r (by omega) hhi⟩

theorem frameOfRecord_us (r : Record) {j : Nat} (hj : j < 4) :
    (frameOfRecord r)[33 + 2 * j] = r.us[j].extractLsb' 0 8 ∧
    (frameOfRecord r)[34 + 2 * j] = r.us[j].extractLsb' 8 8 := by
  obtain ⟨hlo, hhi⟩ := body_getElem?_us r.ir r.us r.timestamp r.sequence hj
  have hlo' := frameOfRecord_getElem_of_body r (by omega) hlo
  have hhi' := frameOfRecord_getElem_of_body r (by omega) hhi
  constructor
  · simpa only [show 33 + 2 * j = 32 + 2 * j + 1 by omega] using hlo'
  · simpa only [show 34 + 2 * j = 32 + (2 * j + 1) + 1 by omega] using hhi'

theorem frameOfRecord_timestamp (r : Record) :
    (frameOfRecord r)[41] = r.timestamp.extractLsb' 0 8 ∧ (frameOfRecord r)[42] = r.timestamp.extractLsb' 8 8 ∧
    (frameOfRecord r)[43] = r.timestamp.extractLsb' 16 8 ∧ (frameOfRecord r)[44] = r.timestamp.extractLsb' 24 8 := by
  have hbyte (k : Fin 4) : (frameOfRecord r)[40 + k.val + 1] = (le32 r.timestamp)[k.val]'k.isLt :=
    frameOfRecord_getElem_of_body r (by omega)
      ((body_getElem?_timestamp r.ir r.us r.timestamp r.sequence k.isLt).trans (List.getElem?_eq_getElem k.isLt))
  exact ⟨hbyte 0, hbyte 1, hbyte 2, hbyte 3⟩

/-! ### Reading a frame back -/

/-- Serialising a record loses nothing: every field is assembled again from its own bytes (30_encoding R72). -/
@[simp] theorem recordOfFrame_frameOfRecord (r : Record) : recordOfFrame (frameOfRecord r) = r := by
  have hir : (recordOfFrame (frameOfRecord r)).ir = r.ir := Vector.ext fun i hi => by
    obtain ⟨hlo, hhi⟩ := frameOfRecord_ir r hi
    simp only [recordOfFrame, Vector.getElem_ofFn, hlo, hhi, fromLe16_le16]
  have hus : (recordOfFrame (frameOfRecord r)).us = r.us := Vector.ext fun j hj => by
    obtain ⟨hlo, hhi⟩ := frameOfRecord_us r hj
    simp only [recordOfFrame, Vector.getElem_ofFn, hlo, hhi, fromLe16_le16]
  have htimestamp : (recordOfFrame (frameOfRecord r)).timestamp = r.timestamp := by
    obtain ⟨h0, h1, h2, h3⟩ := frameOfRecord_timestamp r
    simp only [recordOfFrame, h0, h1, h2, h3, fromLe32_le32]
  exact (Record.mk.injEq ..).mpr ⟨hir, hus, htimestamp, frameOfRecord_sequence r, frameOfRecord_crc r⟩

/-- A frame is valid exactly if its record carries the CRC of its body (30_encoding R79). -/
theorem validFrame_frameOfRecord_iff (r : Record) :
    validFrame (frameOfRecord r) ↔ r.crc = crc8 (body r.ir r.us r.timestamp r.sequence) := by
  simp only [validFrame, frameOfRecord_header, frameOfRecord_footer, frameOfRecord_crc, bodyOf_frameOfRecord, true_and]

theorem decodeFrame_frameOfRecord {r : Record} (h : r.crc = crc8 (body r.ir r.us r.timestamp r.sequence)) :
    decodeFrame (frameOfRecord r) = .ok r :=
  (decodeFrame_eq_ok_iff _ _).mpr ⟨(validFrame_frameOfRecord_iff r).mpr h, (recordOfFrame_frameOfRecord r).symm⟩

theorem decodeFrame_encodeFrame (ir : Vector U16 16) (us : Vector U16 4) (timestamp : U32) (sequence : Byte) :
    decodeFrame (encodeFrame ir us timestamp sequence) = .ok (sealRecord ir us timestamp sequence) :=
  decodeFrame_frameOfRecord rfl

theorem exec_decode (f : Vector Byte 48) (s : State) :
    exec (.decode f) s = .next (s.emit (.result (.decode (decodeFrame f)))) := rfl

end Sys2Proof.Machine

namespace Sys2Proof.Proofs

open Sys2Proof.Machine

/-- Settles O20: a sealed record's frame passes the three checks (`validFrame_frameOfRecord_iff`), and the record read from
it is the one it was made of (`recordOfFrame_frameOfRecord`). -/
theorem decodeEncodeRoundTrip : Obligations.DecodeEncodeRoundTrip := by
  intro ir us timestamp sequence s
  rw [exec_decode, decodeFrame_encodeFrame]
  rfl

/-- Settles O18: the four premises of the statement exclude one another, and `decodeFrame_cases` gives the answer under
each. -/
theorem decodeChecksInOrder : Obligations.DecodeChecksInOrder := by
  intro f s
  refine ⟨decodeFrame f, exec_decode f s, ?_⟩
  rcases decodeFrame_cases f with ⟨hh, hd⟩ | ⟨hh, hf, hd⟩ | ⟨hh, hf, hc, hd⟩ | ⟨⟨hh, hf, hc⟩, hd⟩
  · exact ⟨fun _ => hd, fun h => absurd h hh, fun h => absurd h hh, fun h => absurd h hh⟩
  · exact ⟨fun h => absurd hh h, fun _ _ => hd, fun _ h => absurd h hf, fun _ h => absurd h hf⟩
  · exact ⟨fun h => absurd hh h, fun _ h => absurd hf h, fun _ _ _ => hd, fun _ _ h => absurd h hc⟩
  · exact ⟨fun h => absurd hh h, fun _ h => absurd hf h, fun _ _ h => absurd hc.symm h, fun _ _ _ => ⟨_, hd⟩⟩

end Sys2Proof.Proofs

/-! PROOFS. A `SEND` that passes its checks (42_sender R127 to R131). -/

namespace Sys2Proof.Machine

/-- With no `SEND` in progress, a channel and readings, `SEND` begins and goes on as far as the answers allow, whichever
they are. -/
theorem exec_send_of_passes (ir : Vector U16 16) (us : Vector U16 4) {s : State} (hs : s.sending = false)
    (hc : s.configured = true) : exec (.send ir us true) s = .next (txAdvance (beginSend ir us s)) := by
  rcases execSend_cases ir us true s with ⟨hs', _⟩ | ⟨_, hc', _⟩ | ⟨_, _, hv, _⟩ | ⟨_, _, _, h⟩
  · simp [hs] at hs'
  · simp [hc] at hc'
  · cases hv
  · exact h

end Sys2Proof.Machine

namespace Sys2Proof.Proofs

open Sys2Proof.Machine

/-- Settles O50: the number is used up when the `SEND` begins (`beginSend_consumesSeq`), and no transition of the TX unit,
whichever answer it takes, writes `tx_seq` (`txAdvance_txSeq`). -/
theorem sendConsumesOneSequenceNumber : Obligations.SendConsumesOneSequenceNumber := by
  refine ⟨fun ir us s hs hc => ?_, rfl, by decide⟩
  obtain ⟨hseq, f, hf, hmem⟩ := (beginSend_consumesSeq ir us s).txAdvance
  exact ⟨_, exec_send_of_passes ir us hs hc, hseq, ⟨f, hmem, hf⟩, fun _ => txAdvance_txSeq _⟩

end Sys2Proof.Proofs

/-! PROOFS. An attempt that finds a valid frame on the line: the two reads, the commit, and what the delivery leaves alone
(43_receiver R143 to R153). -/

namespace Sys2Proof.Machine

variable {s : State}

/-! ### The instructions that are attempts -/

/-- `TRY_RECEIVE` and `POLL` are the same attempt, with the budget of the instruction (R154, R157). -/
theorem exec_of_attemptBudget {i : Instr} {timeoutMs : U32} (hi : attemptBudget i = some timeoutMs) (s : State) :
    exec i s = attempt timeoutMs (decide (i = .poll)) s := by
  cases i with
  | tryReceive => cases hi; rfl
  | poll => cases hi; rfl
  | crc8 | encode | decode | configure | send | setConsumer | getStats | resetStats | frame => cases hi

/-- From Idle with a channel the attempt begins and goes as far as the answers allow (R142). -/
theorem exec_attempt_of_idle {i : Instr} {timeoutMs : U32} (hi : attemptBudget i = some timeoutMs)
    (hidle : s.rxState = .idle) (hconf : s.configured = true) :
    exec i s = .next (runAttempt (begun timeoutMs (decide (i = .poll)) s)) := by
  rw [exec_of_attemptBudget hi]
  rcases attempt_cases timeoutMs (decide (i = .poll)) s with ⟨hbusy, -⟩ | ⟨-, hunconf, -⟩ | ⟨-, -, h⟩
  · exact absurd hidle hbusy
  · simp [hconf] at hunconf
  · exact h

/-! ### The two reads -/

theorem received_toList (v : Vector Byte 47) : (received v).toList = Config.headerByte :: v.toList :=
  Vector.toList_append

/-- A buffer that starts with the header byte is the header byte and the 47 bytes of a body read. -/
theorem exists_eq_received {f : Vector Byte 48} (h : f[0] = Config.headerByte) : ∃ v, f = received v := by
  refine ⟨⟨(f.toList.drop 1).toArray, by simp⟩, buffer_ext ?_⟩
  rw [received_toList, ← h, ← Vector.getElem_toList]
  exact List.drop_eq_getElem_cons (i := 0) (by simp)

/-- The header read takes the first byte of the frame (R143). -/
theorem chanRead_header_received (v : Vector Byte 47) (rest : List LineItem) :
    chanRead 1 ((received v).toList.map .byte ++ rest) =
      some (.bytes #v[Config.headerByte], v.toList.map .byte ++ rest) := by
  rw [received_toList]
  exact chanRead_bytes #v[Config.headerByte] (v.toList.map .byte ++ rest)

/-- With 48 bytes on the line that start with the header byte, two transitions bring them into the buffer (R144, R145). -/
theorem rxAdvance_reads_frame (h : s.rxState = .awaitingHeader) {f : Vector Byte 48} {rest : List LineItem}
    (hline : s.env.rxLine = f.toList.map .byte ++ rest) (hf : f[0] = Config.headerByte) :
    rxAdvance (rxAdvance s) =
      { s.setLine rest with rxbuf := f, rxState := .validating }.emit (.chanRead 47 Config.tBodyMs) := by
  obtain ⟨v, rfl⟩ := exists_eq_received hf
  rw [rxAdvance_header h (hline ▸ chanRead_header_received v rest), rxAdvance_body rfl (chanRead_bytes v rest)]
  simp [bodyAnswered, headerAnswered, received, State.setLine, State.emit]

/-! ### Checks, commit and delivery -/

/-- A valid frame passes the checks, and the clock is read for the commit (R146, R147, R152). -/
theorem validate_of_validFrame (hv : validFrame s.rxbuf) :
    validate s = { s.readClock with stage := .timed s.nowAnswer } := by
  have hd : decodeFrame s.rxbuf = .ok (recordOfFrame s.rxbuf) := (decodeFrame_eq_ok_iff _ _).mpr ⟨hv, rfl⟩
  obtain ⟨-, hfooter, -⟩ := hv
  simp [validate, hfooter, hd]

/-- Two transitions take a valid frame from the checks through the commit (R146 to R152). -/
theorem rxAdvance_accepts_frame (h : s.rxState = .validating) (hs : s.stage = .checking) (hv : validFrame s.rxbuf) :
    rxAdvance (rxAdvance s) = commitTimed s.nowAnswer s.readClock := by
  rw [rxAdvance_validates h hs, validate_of_validFrame hv]
  exact rxAdvance_commits (s := { s.readClock with stage := .timed s.nowAnswer }) h rfl

theorem consumerReturned_keeps (s : State) :
    (consumerReturned s).env.rxLine = s.env.rxLine ∧ (consumerReturned s).expectedSeq = s.expectedSeq ∧
      (consumerReturned s).stats = s.stats := by
  cases hc : s.env.consumerReturns with
  | zero => simp [consumerReturned, hc]
  | succ k => simp [consumerReturned_succ hc]

/-- Neither the delivery nor the consumer's return touches the line, the cursor or the statistics (R153). -/
theorem rxAdvance_delivery_keeps (h : s.rxState = .validating) (hs : s.stage = .committed) :
    (rxAdvance (rxAdvance s)).env.rxLine = s.env.rxLine ∧ (rxAdvance (rxAdvance s)).expectedSeq = s.expectedSeq ∧
      (rxAdvance (rxAdvance s)).stats = s.stats := by
  rw [rxAdvance_delivers h hs]
  rcases deliverOrEnd_cases s with ⟨-, hd⟩ | ⟨-, hd⟩
  · rw [hd, rxAdvance_idle rfl]
    exact ⟨rfl, rfl, rfl⟩
  · rw [rxAdvance_delivering (s := deliverOrEnd s) (by rw [hd]; exact h) (by rw [hd]; rfl), hd]
    exact consumerReturned_keeps _

/-- An attempt that finds a valid frame takes its 48 bytes off the line and commits its record, whatever becomes of the
delivery. -/
theorem runAttempt_validFrame (h : s.rxState = .awaitingHeader) (hs : s.stage = .checking) {f : Vector Byte 48}
    {rest : List LineItem} (hline : s.env.rxLine = f.toList.map .byte ++ rest) (hv : validFrame f) :
    (runAttempt s).env.rxLine = rest ∧ (runAttempt s).expectedSeq = f[45] + 1 ∧
      (runAttempt s).stats = (commit (recordOfFrame f) s.nowAnswer s).stats := by
  have hcommit : rxAdvance (rxAdvance (rxAdvance (rxAdvance s))) = commitTimed s.nowAnswer
      (({ s.setLine rest with rxbuf := f, rxState := .validating }.emit (.chanRead 47 Config.tBodyMs)).readClock) := by
    rw [rxAdvance_reads_frame h hline hv.1]
    exact rxAdvance_accepts_frame rfl hs hv
  unfold runAttempt
  rw [hcommit]
  exact rxAdvance_delivery_keeps rfl rfl

/-! ### The loss of one frame (R148) -/

theorem lossOf_of_one_lt {sequence cursor : Byte} (h : 1 < (sequence - cursor).toNat) :
    lossOf sequence cursor = (sequence - cursor).setWidth 32 - 1 := if_pos h

theorem lossOf_of_le_one {sequence cursor : Byte} (h : (sequence - cursor).toNat ≤ 1) : lossOf sequence cursor = 0 :=
  if_neg h.not_gt

end Sys2Proof.Machine

namespace Sys2Proof.Proofs

open Sys2Proof.Machine

/-- Settles O36: the attempt commits the frame's record (`runAttempt_validFrame`), which moves the cursor past it and adds
`lossOf` to the loss counter. -/
theorem validFrameMovesTheCursor : Obligations.ValidFrameMovesTheCursor := by
  intro i timeoutMs s f rest hi hidle hconf hline hheader hfooter hcrc
  obtain ⟨hrest, hcursor, hstats⟩ := runAttempt_validFrame (s := begun timeoutMs (decide (i = .poll)) s) rfl rfl hline
    ⟨hheader, hfooter, hcrc.symm⟩
  have hlost : (runAttempt (begun timeoutMs (decide (i = .poll)) s)).stats.packetsLost =
      s.stats.packetsLost + lossOf f[45] s.expectedSeq := congrArg (·.packetsLost) hstats
  refine ⟨_, exec_attempt_of_idle hi hidle hconf, hrest, hcursor, fun hgap => ?_, fun hgap => ?_⟩
  · rw [hlost, lossOf_of_one_lt hgap]
  · rw [hlost, lossOf_of_le_one hgap]
    exact BitVec.add_zero _

end Sys2Proof.Proofs

/-! PROOFS. The statistics operations (44_stats_config R171, R173), and who writes the statistics and the rest of the
Receiver's registers (R170): first the instructions, then the steps. -/

namespace Sys2Proof.Machine

variable {s t : State}

/-! ### `GET_STATS` and `RESET_STATS` -/

/-- The operation of code 8 (30_encoding R76). -/
theorem decode_command_eight (p : Ports) : decode (.command 0x08#8 p) = .ok .getStats := rfl

/-- The operation of code 9 (30_encoding R76). -/
theorem decode_command_nine (p : Ports) : decode (.command 0x09#8 p) = .ok .resetStats := rfl

theorem exec_getStats (s : State) : exec .getStats s = .next (s.emit (.result (.getStats s.stats))) := rfl

theorem exec_resetStats (s : State) :
    exec .resetStats s = .next { s with stats := LinkStats.zero, expectedSeq := 0 } := rfl

/-! ### The Receiver's registers through an instruction -/

/-- From `s` to `t` the registers that belong to the Receiver (44_stats_config R170, 10_state R20) are as they were. -/
def ReceiverKept (s t : State) : Prop :=
  t.stats = s.stats ∧ t.expectedSeq = s.expectedSeq ∧ t.rxState = s.rxState ∧ t.rxbuf = s.rxbuf

theorem ReceiverKept.refl (s : State) : ReceiverKept s s := ⟨rfl, rfl, rfl, rfl⟩

theorem txAdvance_receiverKept (s : State) : ReceiverKept s (txAdvance s) := by
  obtain ⟨-, hseq, hstats, -, -, hrx, hbuf, -⟩ := txAdvance_frame s
  exact ⟨hstats, hseq, hrx, hbuf⟩

/-- `SEND` counts nothing: neither of the two events its checks raise has a counter (60_exceptions R193). -/
theorem execSend_receiverKept {ir : Vector U16 16} {us : Vector U16 4} {rdv : Bool}
    (h : execSend ir us rdv s = .next t) : ReceiverKept s t := by
  rcases execSend_cases ir us rdv s with ⟨-, h'⟩ | ⟨-, -, h'⟩ | ⟨-, -, -, h'⟩ | ⟨-, -, -, h'⟩ <;> rw [h'] at h <;> cases h
  · exact .refl s
  · exact .refl s
  · exact txAdvance_receiverKept (beginSend ir us s)

/-- Only the attempts and `RESET_STATS` write the Receiver's registers (R170). -/
theorem exec_receiverKept {i : Instr} (ha : attemptBudget i = none) (hr : i ≠ .resetStats)
    (h : exec i s = .next t) : ReceiverKept s t := by
  cases i with
  | crc8 | decode | getStats | frame => cases h; exact .refl s
  | encode => obtain ⟨-, rfl⟩ := execEncode_eq_next_iff.mp h; exact .refl s
  | configure => obtain ⟨-, rfl⟩ := execConfigure_eq_next_iff.mp h; exact .refl s
  | setConsumer => obtain ⟨-, rfl⟩ := execSetConsumer_eq_next_iff.mp h; exact .refl s
  | send => exact execSend_receiverKept h
  | tryReceive | poll => cases ha
  | resetStats => exact absurd rfl hr

/-! ### The Receiver's registers through a step -/

theorem step_of_isReset (h : s.isReset) : step s = .next (s.setInputs s.env.inputs.tail).hardwareReset := by
  obtain ⟨rest, hi⟩ := List.head?_eq_some_iff.mp h
  simp only [step, happens, hi, applyInput, List.tail_cons]

theorem step_of_runs {i : Instr} (h : s.runs = some i) : step s = exec i (s.setInputs s.env.inputs.tail) := by
  unfold State.runs at h
  split at h
  next what rest hi =>
    cases hd : decode what with
    | ok j =>
      rw [hd] at h
      cases h
      rw [step_present hi hd, hi, List.tail_cons]
    | error e => rw [hd] at h; cases h
  next => cases h

/-- Where the RX unit may make a transition and no attempt goes on, it is idle and the transition does nothing. -/
theorem rxState_idle_of_not_attemptGoesOn (hg : ¬ s.attemptGoesOn)
    (hi : s.env.inputs = [] ∨ s.env.inputs.head? = some .receiverProceeds) : s.rxState = .idle :=
  of_not_not fun hx => hg ⟨hx, hi⟩

/-- A step that is no reset, runs neither an attempt nor `RESET_STATS`, and in which no attempt goes on leaves the
Receiver's registers alone (R170). -/
theorem step_receiverKept (h : step s = .next t) (hn : ¬ s.isReset) (hr : s.runs ≠ some .resetStats)
    (ha : ∀ i, s.runs = some i → attemptBudget i = none) (hg : ¬ s.attemptGoesOn) : ReceiverKept s t := by
  rcases step_cases h with ⟨hi, rfl⟩ | ⟨i, hi, he⟩ | ⟨bytes, rest, -, -, rfl⟩ | ⟨rest, hi, rfl⟩ | ⟨rest, -, rfl⟩ |
    ⟨rest, hi, -⟩ | ⟨-, -, -, env, rfl⟩
  · rw [rxAdvance_idle (rxState_idle_of_not_attemptGoesOn hg (.inl hi))]
    exact txAdvance_receiverKept s
  · exact exec_receiverKept (s := s.setInputs s.env.inputs.tail) (ha i hi) (fun hreset => hr (hreset ▸ hi)) he
  · exact .refl s
  · have hidle : s.rxState = .idle := rxState_idle_of_not_attemptGoesOn hg (.inr (by simp [hi]))
    rw [rxAdvance_idle (s := s.setInputs rest) hidle]
    exact .refl s
  · exact txAdvance_receiverKept (s.setInputs rest)
  · exact absurd (by simp [State.isReset, hi]) hn
  · exact .refl s

end Sys2Proof.Machine

namespace Sys2Proof.Proofs

open Sys2Proof.Machine

/-- Settles O51: of the instructions only the attempts and `RESET_STATS` write the Receiver's registers
(`exec_receiverKept`), and of the steps only those that reset, run one of these or let an attempt go on
(`step_receiverKept`). -/
theorem statisticsOwnedByReceiver : Obligations.StatisticsOwnedByReceiver := by
  refine ⟨rfl, ?_, ?_, fun i s t h ha hr => exec_receiverKept ha hr h, fun s t h => ⟨?_, ?_, step_receiverKept h⟩⟩
  · intro s t h
    rw [exec_resetStats] at h; cases h; rfl
  · intro s t h
    rw [exec_getStats] at h; cases h; rfl
  · intro hreset
    rw [step_of_isReset hreset] at h; cases h
    exact ⟨rfl, rfl, rfl⟩
  · intro hruns
    rw [step_of_runs hruns, exec_resetStats] at h; cases h
    exact ⟨rfl, rfl, rfl, rfl⟩

/-- Settles O42: the snapshot is all five statistics, and handing it out is the only change (`exec_getStats`). -/
theorem getStatsCompletes : Obligations.GetStatsCompletes := fun s p =>
  ⟨decode_command_eight p, exec_getStats s, exec_getStats State.reset⟩

/-- Settles O43: `RESET_STATS` writes the statistics and the cursor in one update (`exec_resetStats`). -/
theorem resetStatsCompletes : Obligations.ResetStatsCompletes := fun s p =>
  ⟨decode_command_nine p, exec_resetStats s⟩

end Sys2Proof.Proofs

/-! PROOFS. A header or footer mismatch is recorded and not counted (60_exceptions R193): one transition of an attempt, then
the whole walk. The walk needs that an attempt which has counted something is past the checks and rejects nothing more. -/

namespace Sys2Proof.Machine

variable {s t : State}

/-! ### The recorded mismatches -/

/-- The output records a header or footer mismatch (41_codec R117). -/
def Output.isSyncFailure : Output → Bool
  | .event (.frameSyncFailure _) => true
  | _ => false

/-- How many mismatches are recorded among the outputs so far. -/
def State.syncFailures (s : State) : Nat := s.outputs.countP Output.isSyncFailure

theorem syncFailures_ne_of_mem {new : List Output} {d : Delimiter} (h : t.outputs = s.outputs ++ new)
    (hd : .event (.frameSyncFailure d) ∈ new) : t.syncFailures ≠ s.syncFailures := by
  have hpos : 0 < new.countP Output.isSyncFailure := List.countP_pos_iff.mpr ⟨_, hd, rfl⟩
  simp only [State.syncFailures, h, List.countP_append]
  omega

theorem emit_syncFailures {o : Output} (ho : o.isSyncFailure = false) (s : State) :
    (s.emit o).syncFailures = s.syncFailures := by
  simp [State.syncFailures, ho]

/-- The result of an attempt is no event. -/
@[simp] theorem endAttempt_syncFailures (s : State) (r : Receipt) : (s.endAttempt r).syncFailures = s.syncFailures := by
  cases hp : s.pollAttempt <;> simp [State.syncFailures, Output.isSyncFailure, hp]

/-- Only a mismatch is recorded as one. -/
theorem absorb_syncFailures {e : Event} (he : (Output.event e).isSyncFailure = false) (s : State) :
    (s.absorb e).syncFailures = s.syncFailures :=
  (endAttempt_syncFailures _ _).trans (emit_syncFailures he s)

/-! ### One transition of an attempt -/

/-- From `s` to `t` no statistic and not the cursor has changed. -/
def Uncounted (s t : State) : Prop := t.stats = s.stats ∧ t.expectedSeq = s.expectedSeq

theorem Uncounted.refl (s : State) : Uncounted s s := ⟨rfl, rfl⟩

theorem Uncounted.trans {u : State} (h : Uncounted s t) (h' : Uncounted t u) : Uncounted s u :=
  ⟨h'.1.trans h.1, h'.2.trans h.2⟩

/-- No read answer and no check is ahead any more: the attempt has ended, or its commit is made (43_receiver R152, R153). -/
def PastChecks (s : State) : Prop :=
  s.rxState = .idle ∨ s.rxState = .validating ∧ (s.stage = .committed ∨ s.stage = .delivering)

/-- From `s` to `t` no mismatch was recorded, and whatever was counted was counted where none can follow; or one was
recorded, which ended the attempt with nothing counted. -/
def SyncFailureUncounted (s t : State) : Prop :=
  (t.syncFailures = s.syncFailures ∧ (Uncounted s t ∨ PastChecks t)) ∨ (Uncounted s t ∧ t.rxState = .idle)

theorem SyncFailureUncounted.of_mem {new : List Output} {d : Delimiter} (h : SyncFailureUncounted s t)
    (hout : t.outputs = s.outputs ++ new) (hd : .event (.frameSyncFailure d) ∈ new) :
    Uncounted s t ∧ t.rxState = .idle :=
  h.resolve_left fun hkept => syncFailures_ne_of_mem hout hd hkept.1

/-- A mismatch has no counter, and the other five events are no mismatch (R190, R193). -/
theorem absorb_syncFailureUncounted (s : State) (e : Event) : SyncFailureUncounted s (s.absorb e) := by
  cases e with
  | frameSyncFailure => exact .inr ⟨.refl s, rfl⟩
  | channelUnconfigured | invalidInput | timeout | linkFault | checksumMismatch =>
    exact .inl ⟨absorb_syncFailures rfl s, .inr (.inl rfl)⟩

theorem headerAnswered_syncFailureUncounted (a : ReadAnswer 1) (s : State) :
    SyncFailureUncounted s (headerAnswered a s) := by
  rcases headerAnswered_cases a s with ⟨-, h⟩ | ⟨-, h⟩ | ⟨-, -, -, h⟩ | ⟨-, -, -, h⟩ <;> rw [h]
  · exact absorb_syncFailureUncounted s _
  · exact absorb_syncFailureUncounted s _
  · exact absorb_syncFailureUncounted s _
  · exact .inl ⟨emit_syncFailures rfl _, .inl (.refl s)⟩

theorem bodyAnswered_syncFailureUncounted (a : ReadAnswer 47) (s : State) :
    SyncFailureUncounted s (bodyAnswered a s) := by
  rcases bodyAnswered_cases a s with ⟨-, h⟩ | ⟨-, h⟩ | ⟨_, -, h⟩ <;> rw [h]
  · exact absorb_syncFailureUncounted s _
  · exact absorb_syncFailureUncounted s _
  · exact .inl ⟨rfl, .inl (.refl s)⟩

theorem validate_syncFailureUncounted (s : State) : SyncFailureUncounted s (validate s) := by
  rcases validate_cases s with ⟨_, h⟩ | ⟨-, h⟩ | ⟨-, h⟩ <;> rw [h]
  · exact absorb_syncFailureUncounted s _
  · exact absorb_syncFailureUncounted s _
  · exact .inl ⟨emit_syncFailures (o := .now s.nowAnswer) rfl s, .inl (.refl s)⟩

/-- Past the checks no mismatch is recorded, and the attempt stays past them. -/
theorem PastChecks.rxAdvance (h : PastChecks s) :
    (rxAdvance s).syncFailures = s.syncFailures ∧ PastChecks (rxAdvance s) := by
  rcases h with hidle | ⟨hval, hcommitted | hdelivering⟩
  · rw [rxAdvance_idle hidle]
    exact ⟨rfl, .inl hidle⟩
  · rw [rxAdvance_delivers hval hcommitted]
    rcases deliverOrEnd_cases s with ⟨-, hd⟩ | ⟨-, hd⟩ <;> rw [hd]
    · exact ⟨endAttempt_syncFailures s _, .inl rfl⟩
    · exact ⟨emit_syncFailures rfl _, .inr ⟨hval, .inr rfl⟩⟩
  · rw [rxAdvance_delivering hval hdelivering]
    cases hc : s.env.consumerReturns with
    | zero => simpa [consumerReturned, hc] using .inr ⟨hval, .inr hdelivering⟩
    | succ k =>
      rw [consumerReturned_succ hc]
      exact ⟨endAttempt_syncFailures _ _, .inl rfl⟩

theorem rxAdvance_syncFailureUncounted (s : State) : SyncFailureUncounted s (rxAdvance s) := by
  rcases rxAdvance_cases s with h | ⟨-, a, line, -, h⟩ | ⟨-, a, line, -, h⟩ | ⟨-, -, h⟩ | ⟨hval, _, -, h⟩ |
    ⟨hval, hstage, -⟩ | ⟨hval, hstage, -⟩
  · rw [h]
    exact .inl ⟨rfl, .inl (.refl s)⟩
  · rw [h]
    exact headerAnswered_syncFailureUncounted a (s.setLine line)
  · rw [h]
    exact bodyAnswered_syncFailureUncounted a (s.setLine line)
  · rw [h]
    exact validate_syncFailureUncounted s
  · rw [h]
    exact .inl ⟨rfl, .inr (.inr ⟨hval, .inl rfl⟩)⟩
  · have hpast := PastChecks.rxAdvance (.inr ⟨hval, .inl hstage⟩)
    exact .inl ⟨hpast.1, .inr hpast.2⟩
  · have hpast := PastChecks.rxAdvance (.inr ⟨hval, .inr hstage⟩)
    exact .inl ⟨hpast.1, .inr hpast.2⟩

/-! ### The whole attempt -/

/-- One more transition: before anything is counted it is judged by itself, past the checks it records nothing, and after a
mismatch it does nothing. -/
theorem SyncFailureUncounted.rxAdvance (h : SyncFailureUncounted s t) : SyncFailureUncounted s (rxAdvance t) := by
  rcases h with ⟨hsame, hkept | hpast⟩ | ⟨hkept, hidle⟩
  · rcases rxAdvance_syncFailureUncounted t with ⟨hsame', hkept' | hpast'⟩ | ⟨hkept', hidle'⟩
    · exact .inl ⟨hsame'.trans hsame, .inl (hkept.trans hkept')⟩
    · exact .inl ⟨hsame'.trans hsame, .inr hpast'⟩
    · exact .inr ⟨hkept.trans hkept', hidle'⟩
  · obtain ⟨hsame', hpast'⟩ := hpast.rxAdvance
    exact .inl ⟨hsame'.trans hsame, .inr hpast'⟩
  · rw [rxAdvance_idle hidle]
    exact .inr ⟨hkept, hidle⟩

theorem attempt_syncFailureUncounted {timeoutMs : U32} {byPoll : Bool} (h : attempt timeoutMs byPoll s = .next t) :
    SyncFailureUncounted s t := by
  rcases attempt_cases timeoutMs byPoll s with ⟨-, h'⟩ | ⟨-, -, h'⟩ | ⟨-, -, h'⟩ <;> rw [h'] at h <;> cases h
  · exact .inl ⟨(endAttempt_syncFailures _ _).trans (emit_syncFailures (o := .event .channelUnconfigured) rfl s),
      .inl (.refl s)⟩
  · exact runAttempt_induction (P := SyncFailureUncounted s) (fun _ => SyncFailureUncounted.rxAdvance)
      (.inl ⟨emit_syncFailures (o := .chanRead 1 timeoutMs) rfl s, .inl (.refl s)⟩)

end Sys2Proof.Machine

namespace Sys2Proof.Proofs

open Sys2Proof.Machine

/-- Settles O35: an attempt (`attempt_syncFailureUncounted`) and a transition of one (`rxAdvance_syncFailureUncounted`) that
records a mismatch has counted nothing. -/
theorem syncFailuresAreNotCounted : Obligations.SyncFailuresAreNotCounted := by
  refine ⟨fun i timeoutMs s t d new hi h hout hd => ?_, fun s d new hout hd => ?_⟩
  · rw [exec_of_attemptBudget hi] at h
    exact ((attempt_syncFailureUncounted h).of_mem hout hd).1
  · obtain ⟨⟨hstats, hcursor⟩, hidle⟩ := (rxAdvance_syncFailureUncounted s).of_mem hout hd
    exact ⟨hstats, hcursor, hidle⟩

end Sys2Proof.Proofs

/-! PROOFS. The block waits while nothing is in progress and nothing comes from outside (70_reset_and_hazards R224). -/

namespace Sys2Proof.Machine

variable {s : State}

theorem txAdvance_of_not_sending (h : s.sending = false) : txAdvance s = s := by
  simp [txAdvance, h]

/-- Without an input the RX unit and then the TX unit go on (log 11). -/
theorem step_of_no_input (h : s.env.inputs = []) : step s = .next (txAdvance (rxAdvance s)) := by
  simp only [step, happens, h, proceed]

/-- Neither unit has anything to go on with, so the step gives back the state. -/
theorem step_of_idle_no_input (hrx : s.rxState = .idle) (htx : s.sending = false) (hin : s.env.inputs = []) :
    step s = .next s := by
  rw [step_of_no_input hin, rxAdvance_idle hrx, txAdvance_of_not_sending htx]

/-- A state that a step gives back is given back by a run of any length. -/
theorem run_of_step_self (h : step s = .next s) (n : Nat) : Host.Core.run Sys2Proof.core n s = .next s := by
  induction n with
  | zero => rfl
  | succ n ih => rw [run_succ h, ih]

end Sys2Proof.Machine

namespace Sys2Proof.Proofs

open Sys2Proof.Machine

/-- Settles O48: an idle block without input is a fixed point of the step (`step_of_idle_no_input`), hence of every run. -/
theorem idleBlockWaits : Obligations.IdleBlockWaits :=
  fun _ hrx htx hin => run_of_step_self (step_of_idle_no_input hrx htx hin)

end Sys2Proof.Proofs

/-! PROOFS. The invariant is kept: it is a part that speaks of the Receiver and a part that speaks of the Sender, and each unit
leaves the other's part alone. -/

namespace Sys2Proof.Machine

variable {s t : State}

/-! ### The two parts of the invariant -/

/-- The part of the invariant that the RX unit has to keep (43_receiver R142 to R157). -/
def ReceiverInv (s : State) : Prop :=
  (s.rxState ≠ .idle → s.configured = true) ∧
  (s.rxState = .awaitingFooter ∨ s.rxState = .validating → s.rxbuf[0] = Config.headerByte) ∧
  (s.stage ≠ .checking → s.rxState = .validating ∧ validFrame s.rxbuf) ∧
  (s.stage = .delivering → s.consumerEn = true) ∧
  (s.pollAttempt = true → s.rxState ≠ .idle)

/-- The part of the invariant that the TX unit has to keep (42_sender R126 to R131). -/
def SenderInv (s : State) : Prop :=
  s.sending = true → s.configured = true ∧ validFrame s.txbuf ∧ s.txbuf[45] = s.txSeq - 1

theorem inv_iff : Inv s ↔ ReceiverInv s ∧ SenderInv s := by
  constructor
  · rintro ⟨hconf, hsend, hheader, hstage, hconsumer, hpoll, hframe⟩
    exact ⟨⟨hconf, hheader, hstage, hconsumer, hpoll⟩, fun hs => ⟨hsend hs, hframe hs⟩⟩
  · rintro ⟨⟨hconf, hheader, hstage, hconsumer, hpoll⟩, hsender⟩
    exact ⟨hconf, fun hs => (hsender hs).1, hheader, hstage, hconsumer, hpoll, fun hs => (hsender hs).2⟩

/-! ### The Receiver's part -/

/-- Without an attempt in progress nothing is asked of the Receiver. -/
theorem receiverInv_of_idle (hidle : s.rxState = .idle) (hstage : s.stage = .checking) (hpoll : s.pollAttempt = false) :
    ReceiverInv s := by
  simp [ReceiverInv, hidle, hstage, hpoll]

/-- Before the checks are passed, an attempt needs its channel, and past the header wait the header byte. -/
theorem receiverInv_of_checking (hconf : s.configured = true) (hbusy : s.rxState ≠ .idle) (hstage : s.stage = .checking)
    (hheader : s.rxState = .awaitingFooter ∨ s.rxState = .validating → s.rxbuf[0] = Config.headerByte) :
    ReceiverInv s :=
  ⟨fun _ => hconf, hheader, fun hs => absurd hstage hs, by simp [hstage], fun _ => hbusy⟩

/-- Past the checks an attempt needs its channel, the valid frame and, once the record is delivered, the consumer. -/
theorem receiverInv_of_accepted (hconf : s.configured = true) (hval : s.rxState = .validating)
    (hframe : validFrame s.rxbuf) (hconsumer : s.stage = .delivering → s.consumerEn = true) : ReceiverInv s :=
  ⟨fun _ => hconf, fun _ => hframe.1, fun _ => ⟨hval, hframe⟩, hconsumer, fun _ => by simp [hval]⟩

theorem receiverInv_absorb (s : State) (e : Event) : ReceiverInv (s.absorb e) := receiverInv_of_idle rfl rfl rfl

theorem receiverInv_endAttempt (s : State) (r : Receipt) : ReceiverInv (s.endAttempt r) := receiverInv_of_idle rfl rfl rfl

theorem ReceiverInv.configured (h : ReceiverInv s) (hbusy : s.rxState ≠ .idle) : s.configured = true := by
  obtain ⟨hconf, -⟩ := h
  exact hconf hbusy

/-- An attempt that has not come to `Validating` has not passed the checks. -/
theorem ReceiverInv.stage_checking (h : ReceiverInv s) (hx : s.rxState ≠ .validating) : s.stage = .checking := by
  obtain ⟨-, -, hstage, -, -⟩ := h
  exact of_not_not fun hs => hx (hstage hs).1

theorem ReceiverInv.headerAnswered (h : ReceiverInv s) (hx : s.rxState = .awaitingHeader) (a : ReadAnswer 1)
    (line : List LineItem) : ReceiverInv (headerAnswered a (s.setLine line)) := by
  rcases headerAnswered_cases a (s.setLine line) with ⟨-, ha⟩ | ⟨-, ha⟩ | ⟨-, -, -, ha⟩ | ⟨-, -, -, ha⟩ <;> rw [ha]
  · exact receiverInv_absorb _ _
  · exact receiverInv_absorb _ _
  · exact receiverInv_absorb _ _
  · exact receiverInv_of_checking (h.configured (by simp [hx])) (by simp) (h.stage_checking (by simp [hx])) (by simp)

/-- The first byte stays in front of the 47 bytes of a body read (R145). -/
theorem getElem_zero_cons (b : Byte) (v : Vector Byte 47) : ((#v[b] ++ v : Vector Byte (1 + 47)) : Vector Byte 48)[0] = b :=
  Vector.getElem_append_left (xs := #v[b]) (ys := v) (i := 0) (by decide)

theorem ReceiverInv.bodyAnswered (h : ReceiverInv s) (hx : s.rxState = .awaitingFooter) (a : ReadAnswer 47)
    (line : List LineItem) : ReceiverInv (bodyAnswered a (s.setLine line)) := by
  rcases bodyAnswered_cases a (s.setLine line) with ⟨-, ha⟩ | ⟨-, ha⟩ | ⟨v, -, ha⟩ <;> rw [ha]
  · exact receiverInv_absorb _ _
  · exact receiverInv_absorb _ _
  · exact receiverInv_of_checking (h.configured (by simp [hx])) (by simp) (h.stage_checking (by simp [hx]))
      (fun _ => (getElem_zero_cons _ v).trans (by obtain ⟨-, hheader, -⟩ := h; exact hheader (.inl hx)))

theorem ReceiverInv.validate (h : ReceiverInv s) (hx : s.rxState = .validating) : ReceiverInv (validate s) := by
  rcases validate_cases s with ⟨_, hv⟩ | ⟨-, hv⟩ | ⟨hok, hv⟩ <;> rw [hv]
  · exact receiverInv_absorb _ _
  · exact receiverInv_absorb _ _
  · exact receiverInv_of_accepted (h.configured (by simp [hx])) hx ((decodeFrame_eq_ok_iff _ _).mp hok).1 (by simp)

/-- Every transition of the RX unit keeps the Receiver's part (43_receiver R155). -/
theorem ReceiverInv.rxAdvance (h : ReceiverInv s) : ReceiverInv (rxAdvance s) := by
  obtain ⟨-, -, hstage, -⟩ := id h
  rcases rxAdvance_cases s with ha | ⟨hx, a, line, -, ha⟩ | ⟨hx, a, line, -, ha⟩ | ⟨hx, -, ha⟩ | ⟨hx, now, hs, ha⟩ |
    ⟨hx, hs, ha⟩ | ⟨-, -, k, -, ha⟩ <;> rw [ha]
  · exact h
  · exact h.headerAnswered hx a line
  · exact h.bodyAnswered hx a line
  · exact h.validate hx
  · exact receiverInv_of_accepted (h.configured (by simp [hx])) hx (hstage (by simp [hs])).2 (by simp)
  · rcases deliverOrEnd_cases s with ⟨-, hd⟩ | ⟨hc, hd⟩ <;> rw [hd]
    · exact receiverInv_endAttempt _ _
    · exact receiverInv_of_accepted (h.configured (by simp [hx])) hx (hstage (by simp [hs])).2 (fun _ => hc)
  · exact receiverInv_endAttempt _ _

/-- The TX unit leaves everything the Receiver's part speaks of. -/
theorem ReceiverInv.txAdvance (h : ReceiverInv s) : ReceiverInv (txAdvance s) := by
  rcases txAdvance_cases s with ha | ⟨-, rest, -, ha⟩ | ⟨-, rest, -, ha⟩ <;> rw [ha] <;> exact h

/-! ### The Sender's part -/

theorem senderInv_of_not_sending (h : s.sending = false) : SenderInv s := by
  simp [SenderInv, h]

/-- The RX unit leaves everything the Sender's part speaks of. -/
theorem SenderInv.rxAdvance (h : SenderInv s) : SenderInv (rxAdvance s) := by
  obtain ⟨hseq, hbuf, hsend, hconf, -⟩ := rxAdvance_frame s
  simpa only [SenderInv, hseq, hbuf, hsend, hconf] using h

/-- Taking the answer ends the `SEND` (42_sender R131). -/
theorem SenderInv.txAdvance (h : SenderInv s) : SenderInv (txAdvance s) := by
  rcases txAdvance_cases s with ha | ⟨-, rest, -, ha⟩ | ⟨-, rest, -, ha⟩ <;> rw [ha]
  · exact h
  · exact senderInv_of_not_sending rfl
  · exact senderInv_of_not_sending rfl

/-- The frame handed over carries the number before the counter (R129, R130) and the CRC of its body. -/
theorem senderInv_beginSend (ir : Vector U16 16) (us : Vector U16 4) (hconf : s.configured = true) :
    SenderInv (beginSend ir us s) := by
  refine fun _ => ⟨hconf, (validFrame_frameOfRecord_iff _).mpr rfl, ?_⟩
  rw [beginSend_txbuf, beginSend_txSeq, BitVec.add_sub_cancel]
  exact frameOfRecord_sequence _

/-! ### Instructions and steps -/

theorem Inv.rxAdvance (h : Inv s) : Inv (rxAdvance s) := by
  obtain ⟨hr, hs⟩ := inv_iff.mp h
  exact inv_iff.mpr ⟨hr.rxAdvance, hs.rxAdvance⟩

theorem Inv.txAdvance (h : Inv s) : Inv (txAdvance s) := by
  obtain ⟨hr, hs⟩ := inv_iff.mp h
  exact inv_iff.mpr ⟨hr.txAdvance, hs.txAdvance⟩

/-- The invariant speaks neither of the outside world nor of what was handed out. -/
theorem Inv.with_env_outputs (h : Inv s) (env : Env) (outputs : List Output) :
    Inv { s with env := env, outputs := outputs } := by
  obtain ⟨hr, hs⟩ := inv_iff.mp h
  exact inv_iff.mpr ⟨hr, hs⟩

theorem Inv.attempt (h : Inv s) {timeoutMs : U32} {byPoll : Bool} (he : attempt timeoutMs byPoll s = .next t) :
    Inv t := by
  obtain ⟨-, hs⟩ := inv_iff.mp h
  rcases attempt_cases timeoutMs byPoll s with ⟨-, ha⟩ | ⟨-, -, ha⟩ | ⟨-, hconf, ha⟩ <;> rw [ha] at he <;> cases he
  · exact inv_iff.mpr ⟨receiverInv_endAttempt _ _, hs⟩
  · exact runAttempt_induction (P := Inv) (fun _ => Inv.rxAdvance)
      (inv_iff.mpr ⟨receiverInv_of_checking hconf (by simp) rfl (by simp), hs⟩)

theorem Inv.execSend (h : Inv s) {ir : Vector U16 16} {us : Vector U16 4} {rdv : Bool}
    (he : execSend ir us rdv s = .next t) : Inv t := by
  obtain ⟨hr, hs⟩ := inv_iff.mp h
  rcases execSend_cases ir us rdv s with ⟨-, ha⟩ | ⟨-, -, ha⟩ | ⟨-, -, -, ha⟩ | ⟨-, hconf, -, ha⟩ <;>
    rw [ha] at he <;> cases he
  · exact inv_iff.mpr ⟨hr, hs⟩
  · exact inv_iff.mpr ⟨hr, hs⟩
  · have hbegun : Inv (beginSend ir us s) := inv_iff.mpr ⟨hr, senderInv_beginSend ir us hconf⟩
    exact hbegun.txAdvance

theorem inOperation_eq_false_iff : s.inOperation = false ↔ s.rxState = .idle ∧ s.sending = false := by
  simp [State.inOperation]

/-- A configuration bit is written while nothing is in progress, so nothing is asked of it (44_stats_config R180). -/
theorem Inv.with_configuration (h : Inv s) (hop : s.inOperation = false) (chv en : Bool) :
    Inv { s with configured := chv, consumerEn := en } := by
  obtain ⟨hidle, hsend⟩ := inOperation_eq_false_iff.mp hop
  obtain ⟨hr, -⟩ := inv_iff.mp h
  have hstage : s.stage = .checking := hr.stage_checking (by simp [hidle])
  have hpoll : s.pollAttempt = false := Bool.eq_false_iff.mpr fun hp => h.poll_in_progress hp hidle
  exact inv_iff.mpr ⟨receiverInv_of_idle hidle hstage hpoll, senderInv_of_not_sending hsend⟩

theorem Inv.exec {i : Instr} (h : Inv s) (he : exec i s = .next t) : Inv t := by
  obtain ⟨hr, hs⟩ := inv_iff.mp h
  cases i with
  | crc8 | decode | getStats | resetStats | frame => cases he; exact inv_iff.mpr ⟨hr, hs⟩
  | encode =>
    obtain ⟨hsend, rfl⟩ := execEncode_eq_next_iff.mp he
    exact inv_iff.mpr ⟨hr, senderInv_of_not_sending hsend⟩
  | configure chv => obtain ⟨hop, rfl⟩ := execConfigure_eq_next_iff.mp he; exact h.with_configuration hop chv s.consumerEn
  | setConsumer en => obtain ⟨hop, rfl⟩ := execSetConsumer_eq_next_iff.mp he; exact h.with_configuration hop s.configured en
  | send => exact h.execSend he
  | tryReceive | poll => exact h.attempt he

theorem inv_hardwareReset (s : State) : Inv s.hardwareReset :=
  inv_iff.mpr ⟨receiverInv_of_idle rfl rfl rfl, senderInv_of_not_sending rfl⟩

theorem Inv.step (h : Inv s) (he : step s = .next t) : Inv t := by
  have hinputs (rest : List Input) : Inv (s.setInputs rest) := h.with_env_outputs _ s.outputs
  rcases step_cases he with ⟨-, rfl⟩ | ⟨i, -, hx⟩ | ⟨bytes, rest, -, -, rfl⟩ | ⟨rest, -, rfl⟩ | ⟨rest, -, rfl⟩ |
    ⟨rest, -, rfl⟩ | ⟨-, -, -, env, rfl⟩
  · exact h.rxAdvance.txAdvance
  · exact (hinputs _).exec hx
  · exact (hinputs rest).with_env_outputs _ s.outputs
  · exact (hinputs rest).rxAdvance
  · exact (hinputs rest).txAdvance
  · exact inv_hardwareReset _
  · exact h.with_env_outputs env s.outputs

end Sys2Proof.Machine

namespace Sys2Proof.Proofs

open Sys2Proof.Machine

/-- Settles O4: each unit's transition keeps its own part of the invariant and leaves the other's (`Inv.rxAdvance`,
`Inv.txAdvance`), an instruction keeps both (`Inv.exec`), and a step is one of these, a reset, or a change outside the
block. -/
theorem stepKeepsInvariant : Obligations.StepKeepsInvariant := fun _ _ h => h.step

/-- Settles O3: at reset no operation is in progress, so nothing is asked (`inv_hardwareReset`). -/
theorem invariantAtReset : Obligations.InvariantAtReset := inv_hardwareReset State.reset

end Sys2Proof.Proofs

/-! PROOFS. The decoder against the encoder, both ways, and the reserved command words (30_encoding R70 to R79, R86). -/

namespace Sys2Proof.Machine

/-! ### Command words -/

/-- A high nibble that is not zero, or an operation code above nine, decodes to nothing (30_encoding R78). -/
theorem decodeCommand_reserved {cmd : Byte} (h : 10 ≤ cmd.toNat) (p : Ports) : ∃ e, decodeCommand cmd p = .error e := by
  unfold decodeCommand
  by_cases hhigh : cmd.extractLsb' 4 4 = 0
  · obtain ⟨k, hlow⟩ : ∃ k, (cmd.extractLsb' 0 4).toNat = k + 10 := by
      have hn : (cmd.extractLsb' 4 4).toNat = 0 := by rw [hhigh]; rfl
      simp only [BitVec.extractLsb'_toNat, Nat.shiftRight_eq_div_pow] at hn ⊢
      exact ⟨cmd.toNat - 10, by omega⟩
    simp only [hhigh, hlow, ne_eq, not_true_eq_false, ↓reduceIte]
    exact ⟨_, rfl⟩
  · exact ⟨_, if_pos hhigh⟩

/-- The ten other command words decode, each to the well-formed instruction whose encoding has that word (R76). -/
theorem decodeCommand_of_lt {cmd : Byte} (h : cmd.toNat < 10) (p : Ports) :
    ∃ i, decodeCommand cmd p = .ok i ∧ i.wellFormed = true ∧ ∃ ports, encode i = .command cmd ports := by
  obtain ⟨n, hn⟩ : ∃ n, n = cmd.toNat := ⟨_, rfl⟩
  obtain rfl : cmd = BitVec.ofNat 8 n := by rw [hn, BitVec.ofNat_toNat, BitVec.setWidth_eq]
  rw [← hn] at h
  interval_cases n <;> exact ⟨_, rfl, rfl, _, rfl⟩

/-- What decodes is one of the ten. -/
theorem decodeCommand_eq_ok {cmd : Byte} {p : Ports} {i : Instr} (h : decodeCommand cmd p = .ok i) :
    i.wellFormed = true ∧ ∃ ports, encode i = .command cmd ports := by
  have hlt : cmd.toNat < 10 := by
    by_contra hge
    obtain ⟨e, he⟩ := decodeCommand_reserved (Nat.le_of_not_lt hge) p
    rw [he] at h
    cases h
  obtain ⟨j, hj, hwf, henc⟩ := decodeCommand_of_lt hlt p
  rw [hj] at h
  cases h
  exact ⟨hwf, henc⟩

/-- A command word that decodes to nothing is refused (R78). -/
theorem step_command_of_error {s : State} {cmd : Byte} {p : Ports} {rest : List Input} {e : Undecoded}
    (h : s.env.inputs = .present (.command cmd p) :: rest) (hd : decodeCommand cmd p = .error e) :
    step s = .refused .reservedCommand := by
  simp only [step, happens, h, applyInput, present, decode, hd, undecoded]

/-! ### Frames -/

/-- 48 bytes decode exactly if they are a valid frame, to the record they hold (R79, R72). -/
theorem decodeLink_eq_ok_iff (f : Vector Byte 48) (i : Instr) :
    decodeLink f = .ok i ↔ validFrame f ∧ i = .frame (recordOfFrame f) := by
  rcases decodeFrame_cases f with ⟨hh, hd⟩ | ⟨-, hf, hd⟩ | ⟨-, -, hc, hd⟩ | ⟨hv, hd⟩ <;> simp only [decodeLink, hd]
  · simp [validFrame, hh]
  · simp [validFrame, hf]
  · simp [validFrame, Ne.symm hc]
  · exact ⟨fun h => ⟨hv, by cases h; rfl⟩, fun ⟨_, h⟩ => h ▸ rfl⟩

theorem sealed_iff (r : Record) : r.sealed = true ↔ r.crc = crc8 (body r.ir r.us r.timestamp r.sequence) := beq_iff_eq

/-- The two bytes of an assembled reading are the bytes it was assembled from (R72). -/
theorem extractLsb'_fromLe16 (b0 b1 : Byte) :
    (fromLe16 b0 b1).extractLsb' 0 8 = b0 ∧ (fromLe16 b0 b1).extractLsb' 8 8 = b1 := by
  simpa only [le16, List.cons.injEq, and_true] using le16_fromLe16 b0 b1

/-- The four bytes of an assembled timestamp (R72). -/
theorem extractLsb'_fromLe32 (b0 b1 b2 b3 : Byte) :
    (fromLe32 b0 b1 b2 b3).extractLsb' 0 8 = b0 ∧ (fromLe32 b0 b1 b2 b3).extractLsb' 8 8 = b1 ∧
    (fromLe32 b0 b1 b2 b3).extractLsb' 16 8 = b2 ∧ (fromLe32 b0 b1 b2 b3).extractLsb' 24 8 = b3 := by
  simpa only [le32, List.cons.injEq, and_true] using le32_fromLe32 b0 b1 b2 b3

/-- What stands at a frame offset (R71): a delimiter, a byte of a reading, one of the timestamp, the sequence or the CRC. -/
theorem frameOffset_cases {k : Nat} (hk : k < 48) :
    k = 0 ∨ k = 47 ∨ (∃ i < 16, k = 2 * i + 1 ∨ k = 2 * i + 2) ∨ (∃ j < 4, k = 33 + 2 * j ∨ k = 34 + 2 * j) ∨
      (k = 41 ∨ k = 42 ∨ k = 43 ∨ k = 44) ∨ k = 45 ∨ k = 46 := by
  by_cases hir : 1 ≤ k ∧ k ≤ 32
  · exact .inr (.inr (.inl ⟨(k - 1) / 2, by omega, by omega⟩))
  · by_cases hus : 33 ≤ k ∧ k ≤ 40
    · exact .inr (.inr (.inr (.inl ⟨(k - 33) / 2, by omega, by omega⟩)))
    · omega

/-- Between its delimiters a frame is the bytes of the record it holds, so no two frames hold the same one (R70 to R72). -/
theorem frameOfRecord_recordOfFrame {f : Vector Byte 48} (hheader : f[0] = Config.headerByte)
    (hfooter : f[47] = Config.footerByte) : frameOfRecord (recordOfFrame f) = f := by
  refine Vector.ext fun k hk => ?_
  rcases frameOffset_cases hk with rfl | rfl | ⟨i, hi, hik⟩ | ⟨j, hj, hjk⟩ | hts | rfl | rfl
  · rw [frameOfRecord_header, hheader]
  · rw [frameOfRecord_footer, hfooter]
  · obtain ⟨hlo, hhi⟩ := frameOfRecord_ir (recordOfFrame f) hi
    obtain ⟨hb0, hb1⟩ := extractLsb'_fromLe16 f[2 * i + 1] f[2 * i + 2]
    rcases hik with rfl | rfl
    · rw [hlo, recordOfFrame, Vector.getElem_ofFn, hb0]
    · rw [hhi, recordOfFrame, Vector.getElem_ofFn, hb1]
  · obtain ⟨hlo, hhi⟩ := frameOfRecord_us (recordOfFrame f) hj
    obtain ⟨hb0, hb1⟩ := extractLsb'_fromLe16 f[33 + 2 * j] f[34 + 2 * j]
    rcases hjk with rfl | rfl
    · rw [hlo, recordOfFrame, Vector.getElem_ofFn, hb0]
    · rw [hhi, recordOfFrame, Vector.getElem_ofFn, hb1]
  · obtain ⟨ht0, ht1, ht2, ht3⟩ := frameOfRecord_timestamp (recordOfFrame f)
    obtain ⟨hb0, hb1, hb2, hb3⟩ := extractLsb'_fromLe32 f[41] f[42] f[43] f[44]
    rcases hts with rfl | rfl | rfl | rfl
    · exact ht0.trans hb0
    · exact ht1.trans hb1
    · exact ht2.trans hb2
    · exact ht3.trans hb3
  · exact frameOfRecord_sequence _
  · exact frameOfRecord_crc _

/-- The record of a valid frame is sealed. -/
theorem sealed_recordOfFrame {f : Vector Byte 48} (hv : validFrame f) : (recordOfFrame f).sealed = true := by
  obtain ⟨hheader, hfooter, -⟩ := id hv
  rwa [sealed_iff, ← validFrame_frameOfRecord_iff, frameOfRecord_recordOfFrame hheader hfooter]

end Sys2Proof.Machine

namespace Sys2Proof.Proofs

open Sys2Proof.Machine

/-- Settles O8: a command word carries its operands on their ports, and a sealed record is read back from its valid frame
(`validFrame_frameOfRecord_iff`, `recordOfFrame_frameOfRecord`). -/
theorem decodeOfEncode : Obligations.DecodeOfEncode := by
  intro i hwf
  cases i with
  | crc8 | encode | decode | configure | send | setConsumer | tryReceive | poll | getStats | resetStats => rfl
  | frame r =>
    refine (decodeLink_eq_ok_iff _ _).mpr ⟨(validFrame_frameOfRecord_iff r).mpr ((sealed_iff r).mp hwf), ?_⟩
    rw [recordOfFrame_frameOfRecord]

/-- Settles O9: only the ten command words decode (`decodeCommand_eq_ok`), and of frames only the valid ones, which are the
frames of the records they hold (`frameOfRecord_recordOfFrame`). -/
theorem encodeOfDecode : Obligations.EncodeOfDecode := by
  intro what i h
  cases what with
  | command cmd p => exact decodeCommand_eq_ok h
  | frame f =>
    obtain ⟨hv, rfl⟩ := (decodeLink_eq_ok_iff f i).mp h
    obtain ⟨hheader, hfooter, -⟩ := id hv
    exact ⟨sealed_recordOfFrame hv, congrArg Presented.frame (frameOfRecord_recordOfFrame hheader hfooter)⟩

/-- Settles O7: a word of ten or more decodes to nothing (`decodeCommand_reserved`), each of the ten below to its operation
(`decodeCommand_of_lt`). -/
theorem reservedCommandWordsRefused : Obligations.ReservedCommandWordsRefused := by
  intro s cmd p rest h
  by_cases hres : 10 ≤ cmd.toNat
  · obtain ⟨e, he⟩ := decodeCommand_reserved hres p
    rw [if_pos hres]
    exact step_command_of_error h he
  · obtain ⟨i, hi, -⟩ := decodeCommand_of_lt (Nat.lt_of_not_le hres) p
    rw [if_neg hres]
    exact ⟨i, hi, step_present h hi⟩

/-- Settles O5: the step takes the input off the list, decodes what it presents and executes it (`step_present`). -/
theorem stepRunsDecodedInstruction : Obligations.StepRunsDecodedInstruction := fun _ _ _ _ h hd => step_present h hd

/-- Settles O6: the ten words fall into the ten arms of the decoder. -/
theorem commandWordsDecode : Obligations.CommandWordsDecode :=
  fun _ => ⟨rfl, rfl, rfl, rfl, rfl, rfl, rfl, rfl, rfl, rfl⟩

end Sys2Proof.Proofs

/-! PROOFS. The laws of the CRC (40_crc R105, R106): it is linear, so what an error does to it is the CRC of the error span. -/

namespace Sys2Proof.Machine

/-- The bytewise exclusive-or of two spans (40_crc R105). -/
def xorBytes (s e : List Byte) : List Byte := List.zipWith (fun a b => a ^^^ b) s e

@[simp] theorem xorBytes_nil : xorBytes [] [] = [] := rfl

@[simp] theorem xorBytes_cons (a b : Byte) (s e : List Byte) :
    xorBytes (a :: s) (b :: e) = (a ^^^ b) :: xorBytes s e := rfl

theorem xorBytes_append {s e : List Byte} (h : s.length = e.length) (s' e' : List Byte) :
    xorBytes (s ++ s') (e ++ e') = xorBytes s e ++ xorBytes s' e' := List.zipWith_append h

@[simp] theorem xorBytes_zeros (s : List Byte) : xorBytes s (List.replicate s.length 0) = s := by
  induction s with
  | nil => rfl
  | cons a s ih => rw [List.length_cons, List.replicate_succ, xorBytes_cons, ih]; simp

/-! ### Linearity and zero bytes -/

/-- The fold is linear in the accumulator and the span together. -/
theorem foldl_byteStep_xor (a a' : Byte) (s t : List Byte) (h : s.length = t.length) :
    (xorBytes s t).foldl byteStep (a ^^^ a') = s.foldl byteStep a ^^^ t.foldl byteStep a' := by
  induction s generalizing a a' t with
  | nil => rw [List.eq_nil_of_length_eq_zero h.symm]; rfl
  | cons b s ih =>
    cases t with
    | nil => simp at h
    | cons c t =>
      rw [xorBytes_cons, List.foldl_cons, List.foldl_cons, List.foldl_cons, byteStep_xor]
      exact ih _ _ t (by simpa using h)

theorem crc8_xorBytes {s e : List Byte} (h : s.length = e.length) : crc8 (xorBytes s e) = crc8 s ^^^ crc8 e :=
  foldl_byteStep_xor 0 0 s e h

theorem crc8_zeros_append (n : Nat) (s : List Byte) : crc8 (List.replicate n 0 ++ s) = crc8 s := by
  rw [crc8_append, crc8_replicate_zero]; rfl

theorem crc8_snoc_eq_zero_iff (s : List Byte) (c : Byte) : crc8 (s ++ [c]) = 0 ↔ c = crc8 s := by
  rw [crc8_snoc, byteStep_eq_zero_iff, eq_comm]

/-- Zero bytes behind a span neither make its CRC zero nor take it away from zero. -/
theorem crc8_append_zeros_eq_zero_iff (e : List Byte) (n : Nat) :
    crc8 (e ++ List.replicate n 0) = 0 ↔ crc8 e = 0 := by
  induction n with
  | zero => simp
  | succ n ih => rw [List.replicate_succ', ← List.append_assoc, crc8_snoc_eq_zero_iff, eq_comm, ih]

/-! ### Errors -/

/-- A span hit by an error within one part of it: the CRC changes by the CRC of the error and of the zeros behind it. -/
theorem crc8_error (front back : List Byte) {s e : List Byte} (h : s.length = e.length) :
    crc8 (front ++ xorBytes s e ++ back) = crc8 (front ++ s ++ back) ^^^ crc8 (e ++ List.replicate back.length 0) := by
  have hspan : front ++ xorBytes s e ++ back =
      xorBytes (front ++ s ++ back) (List.replicate front.length 0 ++ e ++ List.replicate back.length 0) := by
    rw [xorBytes_append (by simp [h]), xorBytes_append (by simp), xorBytes_zeros, xorBytes_zeros]
  rw [hspan, crc8_xorBytes (by simp [h]), List.append_assoc _ e, crc8_zeros_append]

/-- An error whose own CRC is zero is not seen. -/
theorem crc8_error_missed (front back : List Byte) {s e : List Byte} (h : s.length = e.length) (he : crc8 e = 0) :
    crc8 (front ++ xorBytes s e ++ back) = crc8 (front ++ s ++ back) := by
  rw [crc8_error front back h, (crc8_append_zeros_eq_zero_iff e _).mpr he]
  exact BitVec.xor_zero

/-- An error whose own CRC is not zero is seen in a span whose CRC was zero. -/
theorem crc8_error_detected (front back : List Byte) {s e : List Byte} (h : s.length = e.length) (he : crc8 e ≠ 0)
    (hs : crc8 (front ++ s ++ back) = 0) : crc8 (front ++ xorBytes s e ++ back) ≠ 0 := by
  rw [crc8_error front back h, hs, show (0 : Byte) = 0#8 from rfl, BitVec.zero_xor]
  exact mt (crc8_append_zeros_eq_zero_iff e _).mp he

/-- A burst of at most eight bits, shifted to its place in the two bytes in which it stands. -/
def burstBytes (m : Byte) (j : Nat) : List Byte :=
  [(m.setWidth 16 <<< j).extractLsb' 8 8, (m.setWidth 16 <<< j).extractLsb' 0 8]

/-- No burst is a multiple of the polynomial, which has degree 8 (40_crc R106). -/
theorem crc8_burstBytes_ne_zero : ∀ m : Byte, m ≠ 0 → ∀ j : Fin 9, crc8 (burstBytes m j) ≠ 0 := by
  decide +kernel

/-- Two errors, together of CRC zero, with untouched bytes between them are not seen. -/
theorem crc8_two_errors_missed (front mid back : List Byte) (x p : Byte) {s e : List Byte} (h : s.length = e.length)
    (he : crc8 (p :: (List.replicate mid.length 0 ++ e)) = 0) :
    crc8 (front ++ (x ^^^ p) :: (mid ++ (xorBytes s e ++ back))) = crc8 (front ++ x :: (mid ++ (s ++ back))) := by
  have hspan : xorBytes (x :: (mid ++ s)) (p :: (List.replicate mid.length 0 ++ e)) =
      (x ^^^ p) :: (mid ++ xorBytes s e) := by
    rw [xorBytes_cons, xorBytes_append (by simp), xorBytes_zeros]
  have hmissed := crc8_error_missed front back (s := x :: (mid ++ s)) (by simp [h]) he
  simpa only [hspan, List.append_assoc, List.cons_append] using hmissed

/-- The bit `shift` places below the place of bit `b` one byte on, in the two bytes in which it can stand. -/
def shiftedBit (b : Fin 8) (shift : Nat) : List Byte :=
  [(((1#8 <<< b.val : Byte).setWidth 16 : BitVec 16) <<< shift).extractLsb' 8 8,
    (((1#8 <<< b.val : Byte).setWidth 16 : BitVec 16) <<< shift).extractLsb' 0 8]

/-- A bit and the one 127 positions later have CRC zero: x has the order 127 modulo the polynomial (40_crc section 3). -/
theorem crc8_bits_127_apart :
    crc8 (0x80#8 :: (List.replicate 14 (0 : Byte) ++ [0x01#8])) = 0 ∧
    ∀ b : Fin 8, crc8 ((1#8 <<< b.val) :: (List.replicate 14 (0 : Byte) ++ shiftedBit b 1)) = 0 := by
  decide +kernel

/-- The same at twice the distance. -/
theorem crc8_bits_254_apart :
    crc8 (0x40#8 :: (List.replicate 30 (0 : Byte) ++ [0x01#8])) = 0 ∧
    crc8 (0x80#8 :: (List.replicate 30 (0 : Byte) ++ [0x02#8])) = 0 ∧
    ∀ b : Fin 8, crc8 ((1#8 <<< b.val) :: (List.replicate 30 (0 : Byte) ++ shiftedBit b 2)) = 0 := by
  decide +kernel

end Sys2Proof.Machine

namespace Sys2Proof.Proofs

open Sys2Proof.Machine

/-- Settles O11: zeros leave the initial value as it is (`crc8_replicate_zero`). -/
theorem crcIgnoresLeadingZeros : Obligations.CrcIgnoresLeadingZeros :=
  fun n s => ⟨crc8_zeros_append n s, crc8_replicate_zero n⟩

/-- Settles O12: the byte step is linear (`byteStep_xor`), hence the fold (`foldl_byteStep_xor`). -/
theorem crcIsLinear : Obligations.CrcIsLinear := fun _ _ => crc8_xorBytes

/-- Settles O13: the byte step gives zero exactly on equal arguments (`byteStep_eq_zero_iff`). -/
theorem crcResidueForm : Obligations.CrcResidueForm := crc8_snoc_eq_zero_iff

/-- Settles O14: by linearity the CRC changes by that of the burst (`crc8_error`), which is not zero
(`crc8_burstBytes_ne_zero`). -/
theorem crcDetectsBursts : Obligations.CrcDetectsBursts := by
  intro front back x y m j hm hj hzero
  have hburst : crc8 (burstBytes m j) ≠ 0 := crc8_burstBytes_ne_zero m hm ⟨j, by omega⟩
  have hspan (x y : Byte) : front ++ [x, y] ++ back = front ++ x :: y :: back := by simp
  have hdetected := crc8_error_detected front back (s := [x, y]) (e := burstBytes m j) rfl hburst (by rw [hspan, hzero])
  rwa [burstBytes, xorBytes_cons, xorBytes_cons, xorBytes_nil, hspan] at hdetected

/-- Settles O15: each of these pairs of bits has a CRC of zero by itself, so it is missed (`crc8_two_errors_missed`). -/
theorem crcMissesDoubleErrors : Obligations.CrcMissesDoubleErrors := by
  intro front mid back x y z b
  have hbyte {p q : Byte} (h : crc8 (p :: (List.replicate mid.length (0 : Byte) ++ [q])) = 0) :
      crc8 (front ++ (x ^^^ p) :: (mid ++ (y ^^^ q) :: back)) = crc8 (front ++ x :: (mid ++ y :: back)) :=
    crc8_two_errors_missed front mid back x p (s := [y]) (e := [q]) rfl h
  have hpair {p : Byte} {shift : Nat}
      (h : crc8 (p :: (List.replicate mid.length (0 : Byte) ++ shiftedBit b shift)) = 0) :=
    crc8_two_errors_missed front mid back x p (s := [y, z]) (e := shiftedBit b shift) rfl h
  obtain ⟨h127, h127'⟩ := crc8_bits_127_apart
  obtain ⟨h254, h254', h254''⟩ := crc8_bits_254_apart
  refine ⟨fun hmid => ⟨hbyte ?_, hpair ?_⟩, fun hmid => ⟨hbyte ?_, hbyte ?_, hpair ?_⟩⟩ <;> rw [hmid]
  · exact h127
  · exact h127' b
  · exact h254
  · exact h254'
  · exact h254'' b

end Sys2Proof.Proofs

/-! PROOFS. The codec by offset (30_encoding R71, R72), and a flipped bit (41_codec R119): offset 46 together with the body has
CRC zero, so the residue form of the check sees the bit. -/

namespace Sys2Proof.Machine

/-! ### The record region as one span -/

/-- Frame offsets 1 to 46: what the CRC covers, and the CRC (30_encoding R71, R73). -/
def regionOf (f : Vector Byte 48) : List Byte := (f.toList.drop 1).take 46

theorem regionOf_eq (f : Vector Byte 48) : regionOf f = bodyOf f ++ [f[46]] := by
  have hlen : 45 < (f.toList.drop 1).length := by simp
  rw [regionOf, bodyOf, ← List.take_concat_get' _ _ hlen]
  simp

/-- The CRC check in its residue form (40_crc R105). -/
theorem crc8_regionOf_eq_zero_iff (f : Vector Byte 48) : crc8 (regionOf f) = 0 ↔ f[46] = crc8 (bodyOf f) := by
  rw [regionOf_eq, crc8_snoc_eq_zero_iff]

/-- A frame with right delimiters and a region of another CRC fails the last check (41_codec R115). -/
theorem decodeFrame_eq_checksumMismatch {f : Vector Byte 48} (hheader : f[0] = Config.headerByte)
    (hfooter : f[47] = Config.footerByte) (hcrc : crc8 (regionOf f) ≠ 0) : decodeFrame f = .checksumMismatch := by
  rcases decodeFrame_cases f with ⟨hh, -⟩ | ⟨-, hf, -⟩ | ⟨-, -, -, hd⟩ | ⟨⟨-, -, hc⟩, -⟩
  · exact absurd hheader hh
  · exact absurd hfooter hf
  · exact hd
  · exact absurd ((crc8_regionOf_eq_zero_iff f).mpr hc) hcrc

theorem decodeFrame_eq_badHeader {f : Vector Byte 48} (hheader : f[0] ≠ Config.headerByte) :
    decodeFrame f = .badHeader := by
  simp [decodeFrame, hheader]

theorem decodeFrame_eq_badFooter {f : Vector Byte 48} (hheader : f[0] = Config.headerByte)
    (hfooter : f[47] ≠ Config.footerByte) : decodeFrame f = .badFooter := by
  simp [decodeFrame, hheader, hfooter]

/-! ### Flipping bits of one byte -/

theorem xor_ne_self {a m : Byte} (hm : m ≠ 0) : a ^^^ m ≠ a := by
  intro h
  exact hm (by simpa using congrArg (a ^^^ ·) h)

/-- Record offset `j` is frame offset `j + 1` (30_encoding R71). -/
theorem regionOf_set (f : Vector Byte 48) {j : Nat} (hj : j + 1 < 48) (v : Byte) :
    regionOf (f.set (j + 1) v) = (regionOf f).set j v := by
  simp [regionOf, Vector.toList_set, List.drop_set, List.take_set, -List.drop_one]

/-- A byte of a span of CRC zero changed by anything but zero gives another CRC (40_crc R106). -/
theorem crc8_set_ne_zero {s : List Byte} (hs : crc8 s = 0) {j : Nat} (hj : j < s.length) {m : Byte} (hm : m ≠ 0) :
    crc8 (s.set j (s[j] ^^^ m)) ≠ 0 := by
  have hspan : s = s.take j ++ [s[j]] ++ s.drop (j + 1) := by simp
  have hset : s.set j (s[j] ^^^ m) = s.take j ++ xorBytes [s[j]] [m] ++ s.drop (j + 1) := by
    rw [List.set_eq_take_append_cons_drop, if_pos hj]; simp
  rw [hset]
  exact crc8_error_detected _ _ rfl (mt (byteStep_zero_eq_zero m).mp hm) (hspan ▸ hs)

/-- A valid frame with one of its record bytes changed fails the CRC check (41_codec R119). -/
theorem decodeFrame_set_region {f : Vector Byte 48} (hv : validFrame f) {j : Nat} (hj : j < 46) {m : Byte} (hm : m ≠ 0) :
    decodeFrame (f.set (j + 1) (f[j + 1] ^^^ m)) = .checksumMismatch := by
  obtain ⟨hheader, hfooter, hcrc⟩ := hv
  refine decodeFrame_eq_checksumMismatch ?_ ?_ ?_
  · rwa [Vector.getElem_set_ne _ _ (by omega)]
  · rwa [Vector.getElem_set_ne _ _ (by omega)]
  · have hlen : j < (regionOf f).length := by simp [regionOf, hj]
    have hbyte : (regionOf f)[j] = f[j + 1] := by simp [regionOf]
    rw [regionOf_set f (by omega), ← hbyte]
    exact crc8_set_ne_zero ((crc8_regionOf_eq_zero_iff f).mpr hcrc) hlen hm

/-- A valid frame with one byte changed: which check fails (41_codec R119). -/
theorem decodeFrame_set {f : Vector Byte 48} (hv : validFrame f) {k : Nat} (hk : k < 48) {m : Byte} (hm : m ≠ 0) :
    decodeFrame (f.set k (f[k] ^^^ m)) =
      if k = 0 then .badHeader else if k = 47 then .badFooter else .checksumMismatch := by
  obtain ⟨hheader, hfooter, -⟩ := id hv
  cases k with
  | zero =>
    refine decodeFrame_eq_badHeader ?_
    rw [Vector.getElem_set_self, ← hheader]
    exact xor_ne_self hm
  | succ j =>
    by_cases hj : j = 46
    · subst hj
      refine decodeFrame_eq_badFooter (by rwa [Vector.getElem_set_ne _ _ (by omega)]) ?_
      rw [Vector.getElem_set_self, ← hfooter]
      exact xor_ne_self hm
    · rw [if_neg j.succ_ne_zero, if_neg (by omega)]
      exact decodeFrame_set_region hv (by omega) hm

theorem bit_ne_zero : ∀ b : Fin 8, (1#8 <<< b.val : Byte) ≠ 0 := by decide

theorem validFrame_encodeFrame (ir : Vector U16 16) (us : Vector U16 4) (timestamp : U32) (sequence : Byte) :
    validFrame (encodeFrame ir us timestamp sequence) := (validFrame_frameOfRecord_iff _).mpr rfl

end Sys2Proof.Machine

namespace Sys2Proof.Proofs

open Sys2Proof.Machine

/-- Settles O17: the bytes of a record's frame by field (`frameOfRecord_ir` and the lemmas beside it), for the sealed
record. -/
theorem encodedFrameLayout : Obligations.EncodedFrameLayout := by
  intro ir us timestamp sequence
  obtain ⟨-, -, hcrc⟩ := validFrame_encodeFrame ir us timestamp sequence
  obtain ⟨ht0, ht1, ht2, ht3⟩ := frameOfRecord_timestamp (sealRecord ir us timestamp sequence)
  exact ⟨frameOfRecord_header _, fun i => frameOfRecord_ir (sealRecord ir us timestamp sequence) i.isLt,
    fun j => frameOfRecord_us (sealRecord ir us timestamp sequence) j.isLt, ht0, ht1, ht2, ht3,
    frameOfRecord_sequence _, hcrc, frameOfRecord_footer _⟩

/-- Settles O19: a valid frame decodes to `recordOfFrame`, which assembles every field little-endian (`fromLe16_toNat`,
`fromLe32_toNat`). -/
theorem decodeAssemblesFields : Obligations.DecodeAssemblesFields := by
  intro f s hheader hfooter hcrc
  have hd : decodeFrame f = .ok (recordOfFrame f) :=
    (decodeFrame_eq_ok_iff _ _).mpr ⟨⟨hheader, hfooter, hcrc.symm⟩, rfl⟩
  refine ⟨recordOfFrame f, by rw [exec_decode, hd]; rfl, fun i => ?_, fun j => ?_, fromLe32_toNat .., rfl, rfl⟩
  · simp only [recordOfFrame, Fin.getElem_fin, Vector.getElem_ofFn, fromLe16_toNat]
  · simp only [recordOfFrame, Fin.getElem_fin, Vector.getElem_ofFn, fromLe16_toNat]

/-- Settles O21: a changed delimiter fails its own check; a changed byte between them gives the record region another CRC
than zero (`crc8_set_ne_zero`). -/
theorem singleBitFlipDetected : Obligations.SingleBitFlipDetected := by
  intro ir us timestamp sequence k b s
  have hset := decodeFrame_set (validFrame_encodeFrame ir us timestamp sequence) k.isLt (bit_ne_zero b)
  exact (exec_decode _ s).trans (by rw [← hset]; rfl)

/-- Settles O16: `ENCODE` is guarded by the `SEND` in progress alone (`execEncode_eq_next_iff`). -/
theorem encodeCompletes : Obligations.EncodeCompletes := fun _ _ _ _ _ =>
  ⟨fun hs => execEncode_eq_next_iff.mpr ⟨hs, rfl⟩, fun hs => if_pos hs⟩

end Sys2Proof.Proofs

/-! PROOFS. The sender's answers (42_sender R126 to R133), and that `SEND` does not look at the Receiver. -/

namespace Sys2Proof.Machine

variable {s t : State}

/-! ### Refusals and failed checks -/

theorem exec_send_of_sending (hs : s.sending = true) (ir : Vector U16 16) (us : Vector U16 4) (rdv : Bool) :
    exec (.send ir us rdv) s = .refused .senderBusy := if_pos hs

theorem exec_encode_of_sending (hs : s.sending = true) (ir : Vector U16 16) (us : Vector U16 4) (timestamp : U32)
    (sequence : Byte) : exec (.encode ir us timestamp sequence) s = .refused .senderBusy := if_pos hs

theorem inOperation_eq_true_iff : s.inOperation = true ↔ s.rxState ≠ .idle ∨ s.sending = true := by
  simp [State.inOperation]

theorem exec_configure_of_inOperation (h : s.inOperation = true) (b : Bool) :
    exec (.configure b) s = .refused .operationInProgress := if_pos h

theorem exec_setConsumer_of_inOperation (h : s.inOperation = true) (b : Bool) :
    exec (.setConsumer b) s = .refused .operationInProgress := if_pos h

theorem exec_send_unconfigured (hs : s.sending = false) (hc : s.configured = false) (ir : Vector U16 16)
    (us : Vector U16 4) (rdv : Bool) : exec (.send ir us rdv) s = .next (s.sendFails .channelUnconfigured) := by
  simp [exec, execSend, hs, hc]

theorem exec_send_without_readings (hs : s.sending = false) (hc : s.configured = true) (ir : Vector U16 16)
    (us : Vector U16 4) : exec (.send ir us false) s = .next (s.sendFails .invalidInput) := by
  simp [exec, execSend, hs, hc]

/-! ### Taking the answer -/

theorem txAdvance_waits (h : s.env.writeAnswers = []) : txAdvance s = s := by
  simp [txAdvance, h]

theorem txAdvance_ok (hs : s.sending = true) {rest : List WriteAnswer} (h : s.env.writeAnswers = .ok :: rest) :
    txAdvance s = { s with sending := false, env := { s.env with writeAnswers := rest } }.emit (.result (.send true)) := by
  simp [txAdvance, hs, h]

theorem txAdvance_fail (hs : s.sending = true) {rest : List WriteAnswer} (h : s.env.writeAnswers = .fail :: rest) :
    txAdvance s =
      { s with sending := false, env := { s.env with writeAnswers := rest } }.loseTxbuf.sendFails .linkFault := by
  simp [txAdvance, hs, h]

theorem step_senderProceeds {rest : List Input} (h : s.env.inputs = .senderProceeds :: rest) :
    step s = .next (txAdvance (s.setInputs rest)) := by
  simp only [step, happens, h, applyInput]

theorem step_writeAnswer {a : WriteAnswer} {rest : List Input} (h : s.env.inputs = .writeAnswer a :: rest) :
    step s = .next { s with env := { s.env with inputs := rest, writeAnswers := s.env.writeAnswers ++ [a] } } := by
  simp only [step, happens, h, applyInput, State.setInputs]

/-- The transmit primitive becomes ready and the TX unit takes its answer. -/
theorem run_writeAnswer (h : s.env.writeAnswers = []) (a : WriteAnswer) (rest : List Input) :
    Host.Core.run Sys2Proof.core 2 { s with env := { s.env with inputs := .writeAnswer a :: .senderProceeds :: rest } } =
      .next (txAdvance { s with env := { s.env with inputs := rest, writeAnswers := [a] } }) := by
  rw [run_succ (step_writeAnswer rfl), run_succ (step_senderProceeds rfl), h]
  rfl

/-! ### The Receiver's part -/

theorem txAdvance_withReceiver (s : State) (p : ReceiverPart) :
    txAdvance (s.withReceiver p) = (txAdvance s).withReceiver p := by
  by_cases hs : s.sending = true
  · match hw : s.env.writeAnswers with
    | [] => rw [txAdvance_waits hw, txAdvance_waits (s := s.withReceiver p) hw]
    | .ok :: rest => rw [txAdvance_ok hs hw, txAdvance_ok (s := s.withReceiver p) hs hw]; rfl
    | .fail :: rest => rw [txAdvance_fail hs hw, txAdvance_fail (s := s.withReceiver p) hs hw]; rfl
  · have hs : s.sending = false := Bool.eq_false_iff.mpr hs
    rw [txAdvance_of_not_sending hs, txAdvance_of_not_sending (s := s.withReceiver p) hs]

end Sys2Proof.Machine

namespace Sys2Proof.Proofs

open Sys2Proof.Machine

/-- Settles O22: a `SEND` whose checks succeed begins, and the TX unit takes the answer that is ready (`txAdvance_ok`,
`txAdvance_fail`). -/
theorem sendCompletes : Obligations.SendCompletes := by
  intro ir us s a rest hs hc hw
  rw [exec_send_of_passes ir us hs hc]
  cases a with
  | ok =>
    rw [txAdvance_ok rfl (s := beginSend ir us s) hw]
    simp [beginSend, State.emit, State.readClock, hs]
  | fail =>
    rw [txAdvance_fail rfl (s := beginSend ir us s) hw]
    simp [beginSend, State.emit, State.readClock, State.loseTxbuf, State.sendFails, State.raise, countEvent, hs]

/-- Settles O23: the channel is checked first, then the readings, and each failure only hands out its event and the
result (`exec_send_unconfigured`, `exec_send_without_readings`). -/
theorem sendPreconditionFailures : Obligations.SendPreconditionFailures := by
  intro ir us rdv s hs
  refine ⟨fun hc => ?_, fun hc => ?_⟩
  · rw [exec_send_unconfigured hs hc]
    simp [State.sendFails, State.raise, State.emit, countEvent]
  · rw [exec_send_without_readings hs hc]
    simp [State.sendFails, State.raise, State.emit, countEvent]

/-- Settles O24: without an answer the `SEND` stops behind its `ChanWrite` (`txAdvance_waits`), in progress, and either answer
ends it in the transition that takes it. -/
theorem sendWaitsForItsAnswer : Obligations.SendWaitsForItsAnswer := by
  intro ir us s hs hc hw
  have hnext : exec (.send ir us true) s = .next (beginSend ir us s) := by
    rw [exec_send_of_passes ir us hs hc, txAdvance_waits (s := beginSend ir us s) hw]
  have hop : (beginSend ir us s).inOperation = true := inOperation_eq_true_iff.mpr (.inr rfl)
  refine ⟨_, hnext, rfl, rfl, rfl, exec_send_of_sending rfl, exec_encode_of_sending rfl, exec_configure_of_inOperation hop,
    exec_setConsumer_of_inOperation hop, fun rest => ⟨?_, ?_⟩⟩
  · rw [run_writeAnswer (s := beginSend ir us s) hw, txAdvance_ok rfl rfl, State.emit, ← hw]
    rfl
  · rw [run_writeAnswer (s := beginSend ir us s) hw, txAdvance_fail rfl rfl, ← hw]
    simp [State.sendFails, State.raise, State.emit, countEvent, State.loseTxbuf]

/-- Settles O25: no check, no update and no transition of the TX unit names a field of the receiver part. -/
theorem sendIgnoresReceiver : Obligations.SendIgnoresReceiver := by
  intro ir us rdv s p
  rcases execSend_cases ir us rdv s with ⟨hs, h⟩ | ⟨hs, hc, h⟩ | ⟨hs, hc, rfl, h⟩ | ⟨hs, hc, rfl, h⟩
  · rw [exec_send_of_sending (s := s.withReceiver p) hs, exec_send_of_sending hs]; rfl
  · rw [exec_send_unconfigured (s := s.withReceiver p) hs hc, exec_send_unconfigured hs hc]; rfl
  · rw [exec_send_without_readings (s := s.withReceiver p) hs hc, exec_send_without_readings hs hc]; rfl
  · rw [exec_send_of_passes (s := s.withReceiver p) ir us hs hc, exec_send_of_passes ir us hs hc]
    exact congrArg Host.Outcome.next (txAdvance_withReceiver (beginSend ir us s) p)

end Sys2Proof.Proofs

/-! PROOFS. Rules about every instruction and every step: what is refused, what is handed out, who writes the configuration
bits; then the reset, the configuration operations and the arrival of a frame. -/

namespace Sys2Proof.Machine

variable {s t : State}

/-! ### Refused or executed (60_exceptions sections 4 and 5) -/

/-- An attempt is refused while one is in progress, and has a next state otherwise. -/
theorem attempt_answers (timeoutMs : U32) (byPoll : Bool) (s : State) :
    (s.rxState ≠ .idle ∧ ∃ r, attempt timeoutMs byPoll s = .refused r) ∨
    (¬ s.rxState ≠ .idle ∧ ∃ t, attempt timeoutMs byPoll s = .next t) := by
  rcases attempt_cases timeoutMs byPoll s with ⟨hbusy, h⟩ | ⟨hidle, -, h⟩ | ⟨hidle, -, h⟩
  · exact .inl ⟨hbusy, _, h⟩
  · exact .inr ⟨not_not.mpr hidle, _, h⟩
  · exact .inr ⟨not_not.mpr hidle, _, h⟩

theorem execSend_answers (ir : Vector U16 16) (us : Vector U16 4) (rdv : Bool) (s : State) :
    (s.sending = true ∧ ∃ r, execSend ir us rdv s = .refused r) ∨
    (¬ s.sending = true ∧ ∃ t, execSend ir us rdv s = .next t) := by
  rcases execSend_cases ir us rdv s with ⟨hs, h⟩ | ⟨hs, -, h⟩ | ⟨hs, -, -, h⟩ | ⟨hs, -, -, h⟩
  · exact .inl ⟨hs, _, h⟩
  · exact .inr ⟨by simp [hs], _, h⟩
  · exact .inr ⟨by simp [hs], _, h⟩
  · exact .inr ⟨by simp [hs], _, h⟩

/-- An instruction that asks for an answer guarded by one condition is refused under it and executed without it. -/
theorem guarded_answers {c : Bool} {r : Refusal} {u : State} {a : Answer} (ha : a = if c then .refused r else .next u) :
    (c = true ∧ ∃ r, a = .refused r) ∨ (¬ c = true ∧ ∃ t, a = .next t) := by
  subst ha
  cases c <;> simp

/-- An operation is refused while what it may not overlap is in progress, and has a next state otherwise. -/
theorem exec_answers (i : Instr) (s : State) :
    (mustWait i s ∧ ∃ r, exec i s = .refused r) ∨ (¬ mustWait i s ∧ ∃ t, exec i s = .next t) := by
  cases i with
  | crc8 | decode | getStats | resetStats | frame => exact .inr ⟨id, _, rfl⟩
  | encode => exact guarded_answers (c := s.sending) rfl
  | send ir us rdv => exact execSend_answers ir us rdv s
  | configure | setConsumer =>
    simp only [mustWait, ← inOperation_eq_true_iff]
    exact guarded_answers (c := s.inOperation) rfl
  | tryReceive | poll => exact attempt_answers _ _ s

/-! ### Outputs (20_memory R57) -/

theorem rxAdvance_outputs_prefix (s : State) : s.outputs <+: (rxAdvance s).outputs := by
  obtain ⟨-, -, -, -, -, -, -, h⟩ := rxAdvance_frame s
  exact h

theorem attempt_outputs_prefix {timeoutMs : U32} {byPoll : Bool} (h : attempt timeoutMs byPoll s = .next t) :
    s.outputs <+: t.outputs := by
  rcases attempt_cases timeoutMs byPoll s with ⟨-, h'⟩ | ⟨-, -, h'⟩ | ⟨-, -, h'⟩ <;> rw [h'] at h <;> cases h
  · simp
  · exact runAttempt_induction (P := fun u => s.outputs <+: u.outputs)
      (fun u hu => hu.trans (rxAdvance_outputs_prefix u)) (by simp)

theorem execSend_outputs_prefix {ir : Vector U16 16} {us : Vector U16 4} {rdv : Bool}
    (h : execSend ir us rdv s = .next t) : s.outputs <+: t.outputs := by
  rcases execSend_cases ir us rdv s with ⟨-, h'⟩ | ⟨-, -, h'⟩ | ⟨-, -, -, h'⟩ | ⟨-, -, -, h'⟩ <;> rw [h'] at h <;> cases h
  · simp
  · simp
  · have hbegun : s.outputs <+: (beginSend ir us s).outputs := by simp
    exact hbegun.trans (txAdvance_outputs_prefix _)

theorem exec_outputs_prefix {i : Instr} (h : exec i s = .next t) : s.outputs <+: t.outputs := by
  cases i with
  | crc8 | decode | getStats => cases h; exact List.prefix_append _ _
  | resetStats | frame => cases h; exact List.prefix_rfl
  | encode => obtain ⟨-, rfl⟩ := execEncode_eq_next_iff.mp h; exact List.prefix_append _ _
  | configure => obtain ⟨-, rfl⟩ := execConfigure_eq_next_iff.mp h; exact List.prefix_rfl
  | setConsumer => obtain ⟨-, rfl⟩ := execSetConsumer_eq_next_iff.mp h; exact List.prefix_rfl
  | send => exact execSend_outputs_prefix h
  | tryReceive | poll => exact attempt_outputs_prefix h

theorem step_outputs_prefix (h : step s = .next t) : s.outputs <+: t.outputs := by
  rcases step_cases h with ⟨-, rfl⟩ | ⟨i, -, he⟩ | ⟨bytes, rest, -, -, rfl⟩ | ⟨rest, -, rfl⟩ | ⟨rest, -, rfl⟩ |
    ⟨rest, -, rfl⟩ | ⟨-, -, -, env, rfl⟩
  · exact (rxAdvance_outputs_prefix s).trans (txAdvance_outputs_prefix _)
  · exact exec_outputs_prefix (s := s.setInputs s.env.inputs.tail) he
  · exact List.prefix_rfl
  · exact rxAdvance_outputs_prefix (s.setInputs rest)
  · exact txAdvance_outputs_prefix (s.setInputs rest)
  · exact List.prefix_rfl
  · exact List.prefix_rfl

/-! ### The configuration bits (10_state R33, R34) -/

/-- `configured` once the instruction has run, if one runs. -/
def configuredAfter (run : Option Instr) (old : Bool) : Bool :=
  match run with
  | some (.configure b) => b
  | _ => old

/-- `consumer_en` once the instruction has run, if one runs. -/
def consumerEnAfter (run : Option Instr) (old : Bool) : Bool :=
  match run with
  | some (.setConsumer b) => b
  | _ => old

/-- From `s` to `t` the two configuration bits are as they were. -/
def ConfigurationKept (s t : State) : Prop := t.configured = s.configured ∧ t.consumerEn = s.consumerEn

theorem ConfigurationKept.refl (s : State) : ConfigurationKept s s := ⟨rfl, rfl⟩

theorem ConfigurationKept.trans {u : State} (h : ConfigurationKept s t) (h' : ConfigurationKept t u) :
    ConfigurationKept s u := ⟨h'.1.trans h.1, h'.2.trans h.2⟩

theorem rxAdvance_configurationKept (s : State) : ConfigurationKept s (rxAdvance s) := by
  obtain ⟨-, -, -, hconf, hconsumer, -⟩ := rxAdvance_frame s
  exact ⟨hconf, hconsumer⟩

theorem txAdvance_configurationKept (s : State) : ConfigurationKept s (txAdvance s) := by
  obtain ⟨-, -, -, hconf, hconsumer, -⟩ := txAdvance_frame s
  exact ⟨hconf, hconsumer⟩

theorem attempt_configurationKept {timeoutMs : U32} {byPoll : Bool} (h : attempt timeoutMs byPoll s = .next t) :
    ConfigurationKept s t := by
  rcases attempt_cases timeoutMs byPoll s with ⟨-, h'⟩ | ⟨-, -, h'⟩ | ⟨-, -, h'⟩ <;> rw [h'] at h <;> cases h
  · exact .refl s
  · exact runAttempt_induction (P := ConfigurationKept s) (fun u hu => hu.trans (rxAdvance_configurationKept u)) (.refl s)

theorem execSend_configurationKept {ir : Vector U16 16} {us : Vector U16 4} {rdv : Bool}
    (h : execSend ir us rdv s = .next t) : ConfigurationKept s t := by
  rcases execSend_cases ir us rdv s with ⟨-, h'⟩ | ⟨-, -, h'⟩ | ⟨-, -, -, h'⟩ | ⟨-, -, -, h'⟩ <;> rw [h'] at h <;> cases h
  · exact .refl s
  · exact .refl s
  · exact txAdvance_configurationKept (beginSend ir us s)

theorem exec_configuration {i : Instr} (h : exec i s = .next t) :
    t.configured = configuredAfter (some i) s.configured ∧ t.consumerEn = consumerEnAfter (some i) s.consumerEn := by
  cases i with
  | crc8 | decode | getStats | resetStats | frame => cases h; exact ⟨rfl, rfl⟩
  | encode => obtain ⟨-, rfl⟩ := execEncode_eq_next_iff.mp h; exact ⟨rfl, rfl⟩
  | configure => obtain ⟨-, rfl⟩ := execConfigure_eq_next_iff.mp h; exact ⟨rfl, rfl⟩
  | setConsumer => obtain ⟨-, rfl⟩ := execSetConsumer_eq_next_iff.mp h; exact ⟨rfl, rfl⟩
  | send => exact execSend_configurationKept h
  | tryReceive | poll => exact attempt_configurationKept h

/-- A step that runs no instruction and is no reset leaves the configuration bits. -/
theorem step_configurationKept (h : step s = .next t) (hreset : ¬ s.isReset) (hruns : s.runs = none) :
    ConfigurationKept s t := by
  rcases step_cases h with ⟨-, rfl⟩ | ⟨i, hi, -⟩ | ⟨bytes, rest, -, -, rfl⟩ | ⟨rest, -, rfl⟩ | ⟨rest, -, rfl⟩ |
    ⟨rest, hi, -⟩ | ⟨-, -, -, env, rfl⟩
  · exact (rxAdvance_configurationKept s).trans (txAdvance_configurationKept _)
  · simp [hi] at hruns
  · exact .refl s
  · exact rxAdvance_configurationKept (s.setInputs rest)
  · exact txAdvance_configurationKept (s.setInputs rest)
  · exact absurd (by simp [State.isReset, hi]) hreset
  · exact .refl s

theorem step_configuration (h : step s = .next t) (hreset : ¬ s.isReset) :
    t.configured = configuredAfter s.runs s.configured ∧ t.consumerEn = consumerEnAfter s.runs s.consumerEn := by
  cases hruns : s.runs with
  | none => exact step_configurationKept h hreset hruns
  | some i =>
    rw [step_of_runs hruns] at h
    exact exec_configuration (s := s.setInputs s.env.inputs.tail) h

/-! ### 48 bytes at the link (log 6, log 26) -/

theorem exec_frame (r : Record) (s : State) : exec (.frame r) s = .next (s.arrive (frameOfRecord r)) := rfl

/-- A valid frame and any other 48 bytes arrive alike. -/
theorem step_present_frame {bytes : Vector Byte 48} {rest : List Input}
    (h : s.env.inputs = .present (.frame bytes) :: rest) : step s = .next ((s.setInputs rest).arrive bytes) := by
  cases hd : decodeLink bytes with
  | ok i =>
    obtain ⟨⟨hheader, hfooter, -⟩, rfl⟩ := (decodeLink_eq_ok_iff bytes i).mp hd
    rw [step_present h hd, exec_frame, frameOfRecord_recordOfFrame hheader hfooter]
  | error e => simp only [step, happens, h, applyInput, present, decode, hd, undecoded]

/-! ### Loss and latency (43_receiver R148, R151) -/

/-- The loss is the gap less one, and none without a gap. -/
theorem lossOf_eq (sequence cursor : Byte) : lossOf sequence cursor = BitVec.ofNat 32 ((sequence - cursor).toNat - 1) := by
  have hlt := (sequence - cursor).isLt
  by_cases hgap : 1 < (sequence - cursor).toNat
  · rw [lossOf_of_one_lt hgap]
    generalize sequence - cursor = gap at hgap hlt
    bv_omega
  · rw [lossOf_of_le_one (Nat.le_of_not_lt hgap), Nat.sub_eq_zero_of_le (Nat.le_of_not_lt hgap)]
    rfl

/-- Nine parts of the old average and one of the new latency never overflow 48 bits. -/
theorem ewma_toNat (a : U48) (l : U32) : (ewma a l).toNat = (9 * a.toNat + 65536 * l.toNat) / 10 := by
  have ha := a.isLt
  have hl := l.isLt
  rw [ewma, BitVec.toNat_ofNat, Nat.mod_eq_of_lt (by omega)]

end Sys2Proof.Machine

namespace Sys2Proof.Proofs

open Sys2Proof.Machine

/-- Settles O47: each operation has one guard, and it is `mustWait` (`exec_answers`). -/
theorem operationsRefusedExactlyWhenBusy : Obligations.OperationsRefusedExactlyWhenBusy := by
  intro i s
  rcases exec_answers i s with ⟨hw, r, hr⟩ | ⟨hw, t, ht⟩
  · simp [hr, hw]
  · simp [ht, hw]

/-- Settles O53: no unit's transition, no instruction and no input takes an output back (`step_outputs_prefix`). -/
theorem outputsOnlyGrow : Obligations.OutputsOnlyGrow := fun _ _ => step_outputs_prefix

/-- Settles O52: of the instructions only two write a configuration bit (`exec_configuration`), and a step that runs none
keeps them (`step_configurationKept`) or is a reset. -/
theorem configurationBitsOwned : Obligations.ConfigurationBitsOwned := by
  refine ⟨fun i s t h => ?_, fun s t h => ⟨fun hreset => ?_, step_configuration h⟩⟩
  · have hafter := exec_configuration h
    cases i <;> exact hafter
  · rw [step_of_isReset hreset] at h
    cases h
    exact ⟨rfl, rfl⟩

/-- Settles O1: the reset is the only thing that happens in the step, and it leaves the outside world and the outputs
(`step_of_isReset`). -/
theorem hardwareResetRegisters : Obligations.HardwareResetRegisters := by
  intro s rest h
  refine ⟨_, step_of_isReset (by simp [State.isReset, h]), ?_⟩
  simp [h, LinkStats.zero]

/-- Settles O2: by the definition of the state after reset. -/
theorem resetStateRegisters : Obligations.ResetStateRegisters :=
  ⟨rfl, rfl, rfl, rfl, rfl, rfl, fun _ => ⟨rfl, rfl⟩⟩

/-- Settles O37: the loss is the gap less one (`lossOf_eq`), and a repeated frame is 255 places past the cursor it left. -/
theorem lossByGap : Obligations.LossByGap := by
  intro s r now k hk hseq
  have hgap : r.sequence - s.expectedSeq = BitVec.ofNat 8 k := by rw [hseq, BitVec.add_comm, BitVec.add_sub_cancel]
  refine ⟨?_, ?_, fun now' => ?_⟩
  · simp only [commit_stats, lossOf_eq, hgap, BitVec.toNat_ofNat, Nat.mod_eq_of_lt hk]
  · rw [commit_expectedSeq, hseq, BitVec.add_assoc]
    simp [BitVec.ofNat_add]
  · have hrepeat : r.sequence - (r.sequence + 1) = 255#8 := by bv_omega
    rw [commit_stats, commit_expectedSeq, lossOf_eq, hrepeat]
    rfl

/-- Settles O38: the sum does not overflow (`ewma_toNat`), and a weighted mean lies between its inputs. -/
theorem smoothedLatencyBounds : Obligations.SmoothedLatencyBounds := by
  intro a l
  refine ⟨ewma_toNat a l, by decide, ?_, ?_⟩ <;> rw [ewma_toNat] <;> omega

/-- Settles O44: both are guarded by an operation in progress (`inOperation_eq_true_iff`), and each writes its bit. -/
theorem configurationCompletes : Obligations.ConfigurationCompletes := by
  refine fun b s => ⟨fun hidle hs => ?_, fun hbusy => ?_⟩
  · have hop : s.inOperation = false := inOperation_eq_false_iff.mpr ⟨hidle, hs⟩
    exact ⟨execConfigure_eq_next_iff.mpr ⟨hop, rfl⟩, execSetConsumer_eq_next_iff.mpr ⟨hop, rfl⟩⟩
  · have hop : s.inOperation = true := inOperation_eq_true_iff.mpr hbusy
    exact ⟨exec_configure_of_inOperation hop b, exec_setConsumer_of_inOperation hop b⟩

/-- Settles O41: during a delivery without a `SEND`, `mustWait` holds of the two attempts and the two configuration
operations alone (`exec_answers`). -/
theorem operationsDuringDelivery : Obligations.OperationsDuringDelivery := by
  intro s hval hstage hs
  have hruns {i : Instr} (hi : ¬ mustWait i s) : ∃ t, exec i s = .next t := by
    rcases exec_answers i s with ⟨hw, -⟩ | ⟨-, h⟩
    · exact absurd hw hi
    · exact h
  have hbusy : s.rxState ≠ .idle := by simp [hval]
  have hop : s.inOperation = true := inOperation_eq_true_iff.mpr (.inl hbusy)
  exact ⟨exec_getStats s, ⟨_, exec_resetStats s, hval, hstage⟩, fun _ => hruns id, fun _ => hruns id,
    fun _ _ _ _ => hruns (by simp [mustWait, hs]), fun _ _ _ => hruns (by simp [mustWait, hs]), fun _ => if_pos hbusy,
    if_pos hbusy, exec_configure_of_inOperation hop, exec_setConsumer_of_inOperation hop⟩

/-- Settles O46: the frame of a record is its bytes between the delimiters (`frameOfRecord_toList`), and bytes at the link
arrive whether or not they decode (`step_present_frame`). -/
theorem frameArrives : Obligations.FrameArrives := by
  refine ⟨fun r s => ?_, fun bytes s rest h => step_present_frame h⟩
  rw [exec_frame, State.arrive, frameOfRecord_toList]
  simp [frameBytes, Config.headerByte, Config.footerByte, State.setLine]

end Sys2Proof.Proofs

/-! PROOFS. The transitions of the Receiver, each with its exact next state (43_receiver R155), and the attempts that wait for
a read or end in one or in the checks (R143 to R147). -/

namespace Sys2Proof.Machine

variable {s : State}

/-! ### The 48 bytes of an attempt by offset -/

/-- Behind its first byte the buffer is the answer of the body read. -/
theorem received_getElem_succ (v : Vector Byte 47) {k : Nat} (hk : k < 47) : (received v)[k + 1] = v[k] := by
  have hv : k < v.toList.length := by simpa using hk
  have hlist : (received v).toList[k + 1]'(by rw [received_toList]; exact Nat.succ_lt_succ hv) = v.toList[k] := by
    simp only [received_toList, List.getElem_cons_succ]
  exact hlist

theorem bodyOf_received (v : Vector Byte 47) : bodyOf (received v) = v.toList.take 45 := by
  rw [bodyOf, received_toList, List.drop_one, List.tail_cons]

theorem received_getElem_zero (v : Vector Byte 47) : (received v)[0] = Config.headerByte := getElem_zero_cons _ v

/-- The header is there, so the footer and the CRC decide (R146, R147). -/
theorem validFrame_received_iff (v : Vector Byte 47) :
    validFrame (received v) ↔ v[46] = Config.footerByte ∧ v[45] = crc8 (v.toList.take 45) := by
  rw [validFrame, bodyOf_received, received_getElem_succ v (k := 46) (by decide),
    received_getElem_succ v (k := 45) (by decide), received_getElem_zero]
  simp

/-! ### Transitions with a next state of their own -/

/-- A matching header byte (R144). -/
theorem rxAdvance_header_matches (hx : s.rxState = .awaitingHeader) {h : Vector Byte 1} {line : List LineItem}
    (hr : chanRead 1 s.env.rxLine = some (.bytes h, line)) (hh : h[0] = Config.headerByte) :
    rxAdvance s =
      { s.setLine line with rxbuf := s.rxbuf.set 0 Config.headerByte, rxState := .awaitingFooter }.emit
        (.chanRead 47 Config.tBodyMs) := by
  rw [rxAdvance_header hx hr]
  simp [headerAnswered, hh]

/-- A header byte that is not 0xAA (R144). -/
theorem rxAdvance_header_mismatch (hx : s.rxState = .awaitingHeader) {h : Vector Byte 1} {line : List LineItem}
    (hr : chanRead 1 s.env.rxLine = some (.bytes h, line)) (hh : h[0] ≠ Config.headerByte) :
    rxAdvance s = (s.setLine line).absorb (.frameSyncFailure .header) := by
  rw [rxAdvance_header hx hr]
  simp [headerAnswered, hh]

/-- A wrong footer (R146). -/
theorem rxAdvance_wrong_footer (hx : s.rxState = .validating) (hs : s.stage = .checking)
    (hf : s.rxbuf[47] ≠ Config.footerByte) : rxAdvance s = s.absorb (.frameSyncFailure .footer) := by
  rw [rxAdvance_validates hx hs]
  exact if_pos hf

/-- A wrong CRC between right delimiters (R147). -/
theorem rxAdvance_wrong_crc (hx : s.rxState = .validating) (hs : s.stage = .checking)
    (hh : s.rxbuf[0] = Config.headerByte) (hf : s.rxbuf[47] = Config.footerByte)
    (hc : crc8 (bodyOf s.rxbuf) ≠ s.rxbuf[46]) : rxAdvance s = s.absorb .checksumMismatch := by
  rw [rxAdvance_validates hx hs]
  simp [validate, decodeFrame, hh, hf, hc]

/-- A valid frame: the clock is read (R147, R152). -/
theorem rxAdvance_reads_clock (hx : s.rxState = .validating) (hs : s.stage = .checking) (hv : validFrame s.rxbuf) :
    rxAdvance s = { s.readClock with stage := .timed s.nowAnswer } := by
  rw [rxAdvance_validates hx hs, validate_of_validFrame hv]

theorem rxAdvance_ends_without_consumer (hx : s.rxState = .validating) (hs : s.stage = .committed)
    (hc : s.consumerEn = false) : rxAdvance s = s.endAttempt .dataReceived := by
  rw [rxAdvance_delivers hx hs]
  simp [deliverOrEnd, hc]

theorem rxAdvance_delivers_record (hx : s.rxState = .validating) (hs : s.stage = .committed) (hc : s.consumerEn = true) :
    rxAdvance s = { s with stage := .delivering }.emit (.deliver (recordOfFrame s.rxbuf)) := by
  rw [rxAdvance_delivers hx hs]
  simp [deliverOrEnd, hc]

theorem rxAdvance_consumer_waits (hx : s.rxState = .validating) (hs : s.stage = .delivering)
    (hc : s.env.consumerReturns = 0) : rxAdvance s = s := by
  rw [rxAdvance_delivering hx hs]
  simp [consumerReturned, hc]

theorem rxAdvance_consumer_returns (hx : s.rxState = .validating) (hs : s.stage = .delivering) {n : Nat}
    (hc : s.env.consumerReturns = n + 1) :
    rxAdvance s = { s with env := { s.env with consumerReturns := n } }.endAttempt .dataReceived := by
  rw [rxAdvance_delivering hx hs, consumerReturned_succ hc]

/-! ### Where an attempt stops -/

/-- An attempt that after some of its six transitions has no further one stops there. -/
theorem runAttempt_of_fixed {u : State} (k : Nat) (hk : k ≤ 6) (h : rxAdvance^[k] s = u) (hfix : rxAdvance u = u) :
    runAttempt s = u := by
  obtain ⟨n, hn⟩ := Nat.exists_eq_add_of_le' hk
  calc runAttempt s
    _ = rxAdvance^[6] s := rfl
    _ = rxAdvance^[n] u := by rw [hn, Function.iterate_add_apply, h]
    _ = u := Function.iterate_fixed hfix n

theorem endAttempt_fixed (s : State) (r : Receipt) : rxAdvance (s.endAttempt r) = s.endAttempt r := rxAdvance_idle rfl

/-! ### An attempt issued from Idle -/

/-- The attempt that `i` has begun in `s`, before its checks: the phase, the buffer, the line and what it has requested. -/
def underWay (i : Instr) (phase : RxState) (buffer : Vector Byte 48) (line : List LineItem) (requests : List Output)
    (s : State) : State :=
  { s with
    rxState := phase
    rxbuf := buffer
    stage := .checking
    pollAttempt := decide (i = .poll)
    env := { s.env with rxLine := line }
    outputs := s.outputs ++ requests }

/-- The attempt that `i` has begun in `s` and that failed: the event and the negative result follow what it had requested,
the counter of the event if it has one, the buffer dead (60_exceptions R198). -/
def attemptFailed (i : Instr) (line : List LineItem) (requests : List Output) (e : Event) (s : State) : State :=
  { s with
    stats := countEvent e s.stats
    rxbuf := Config.freeBuffer s.deadBuffers
    deadBuffers := s.deadBuffers + 1
    stage := .checking
    pollAttempt := false
    env := { s.env with rxLine := line }
    outputs := s.outputs ++ (requests ++ [.event e]) ++ returned i .noData }

theorem underWay_absorb (hidle : s.rxState = .idle) (i : Instr) (phase : RxState) (buffer : Vector Byte 48)
    (line : List LineItem) (requests : List Output) (e : Event) :
    (underWay i phase buffer line requests s).absorb e = attemptFailed i line requests e s := by
  simp [State.absorb, State.raise, State.loseRxbuf, State.endAttempt, State.emit, underWay, attemptFailed, returned,
    hidle]

/-- The header matches: the body is requested (R144, R145). -/
theorem rxAdvance_underWay_header {i : Instr} {buffer : Vector Byte 48} {line line' : List LineItem}
    {requests : List Output} {h : Vector Byte 1} (hr : chanRead 1 line = some (.bytes h, line'))
    (hh : h[0] = Config.headerByte) :
    rxAdvance (underWay i .awaitingHeader buffer line requests s) =
      underWay i .awaitingFooter (buffer.set 0 Config.headerByte) line' (requests ++ [.chanRead 47 Config.tBodyMs]) s := by
  rw [rxAdvance_header_matches rfl hr hh]
  simp [underWay, State.setLine, State.emit]

/-- The body is there (R145). -/
theorem rxAdvance_underWay_body {i : Instr} {buffer : Vector Byte 48} {line line' : List LineItem}
    {requests : List Output} {v : Vector Byte 47} (hr : chanRead 47 line = some (.bytes v, line'))
    (hb : buffer[0] = Config.headerByte) :
    rxAdvance (underWay i .awaitingFooter buffer line requests s) = underWay i .validating (received v) line' requests s := by
  rw [rxAdvance_body rfl hr]
  simp [bodyAnswered, underWay, State.setLine, received, hb]

/-! ### A frame behind a stray byte (70_reset_and_hazards R231) -/

/-- The frame of a record without its last byte: what a body read takes of it when a stray byte was taken for its header. -/
def frameWithoutFooter (r : Record) : Vector Byte 47 :=
  ⟨(Config.headerByte :: recordBytes r).toArray, by simp [recordBytes_length]⟩

theorem frameOfRecord_toList_eq_append_footer (r : Record) :
    (frameOfRecord r).toList = (frameWithoutFooter r).toList ++ [Config.footerByte] := by
  rw [frameOfRecord_toList]
  simp [frameBytes, frameWithoutFooter, Vector.toList]

/-- The record's CRC byte is the last of them. -/
theorem frameWithoutFooter_getElem_last (r : Record) : (frameWithoutFooter r)[46] = r.crc := by
  simp [frameWithoutFooter, recordBytes, body_length]

section

variable {i : Instr} {timeoutMs : U32} (hi : attemptBudget i = some timeoutMs) (hidle : s.rxState = .idle)
  (hconf : s.configured = true)

include hi hidle hconf

/-- An attempt issued from Idle with a channel stops where, after some of its transitions, it has no further one. -/
theorem exec_attempt_of_fixed {u : State} (k : Nat) (hk : k ≤ 6)
    (h : rxAdvance^[k] (underWay i .awaitingHeader s.rxbuf s.env.rxLine [.chanRead 1 timeoutMs] s) = u)
    (hfix : rxAdvance u = u) : exec i s = .next u := by
  rw [exec_attempt_of_idle hi hidle hconf]
  exact congrArg Host.Outcome.next (runAttempt_of_fixed k hk h hfix)

/-- The header read fails, or answers another byte than the header (R143, R144). -/
theorem exec_attempt_fails_in_header {a : ReadAnswer 1} {line : List LineItem}
    (hr : chanRead 1 s.env.rxLine = some (a, line)) {e : Event} (ha : ∀ u, headerAnswered a u = u.absorb e) :
    exec i s = .next (attemptFailed i line [.chanRead 1 timeoutMs] e s) := by
  refine exec_attempt_of_fixed hi hidle hconf 1 (by decide) ?_ (rxAdvance_idle hidle)
  refine (rxAdvance_header (s := underWay ..) rfl hr).trans ((ha _).trans ?_)
  exact underWay_absorb hidle i _ _ line _ e

variable {h : Vector Byte 1} {line line' : List LineItem} (hr : chanRead 1 s.env.rxLine = some (.bytes h, line))
  (hh : h[0] = Config.headerByte)

include hr hh

/-- The body read fails (R145). -/
theorem exec_attempt_fails_in_body {a : ReadAnswer 47} (hr' : chanRead 47 line = some (a, line')) {e : Event}
    (ha : ∀ u, bodyAnswered a u = u.absorb e) :
    exec i s = .next (attemptFailed i line' [.chanRead 1 timeoutMs, .chanRead 47 Config.tBodyMs] e s) := by
  refine exec_attempt_of_fixed hi hidle hconf 2 (by decide) ?_ (rxAdvance_idle hidle)
  refine (congrArg rxAdvance (rxAdvance_underWay_header hr hh)).trans ?_
  refine (rxAdvance_body (s := underWay ..) rfl hr').trans ((ha _).trans ?_)
  exact underWay_absorb hidle i _ _ line' _ e

/-- The 48 bytes fail a check (R146, R147). -/
theorem exec_attempt_fails_in_checks {v : Vector Byte 47} (hr' : chanRead 47 line = some (.bytes v, line')) {e : Event}
    (ha : ∀ u : State, u.rxState = .validating → u.stage = .checking → u.rxbuf = received v →
      rxAdvance u = u.absorb e) :
    exec i s = .next (attemptFailed i line' [.chanRead 1 timeoutMs, .chanRead 47 Config.tBodyMs] e s) := by
  refine exec_attempt_of_fixed hi hidle hconf 3 (by decide) ?_ (rxAdvance_idle hidle)
  refine (congrArg (rxAdvance^[2]) (rxAdvance_underWay_header hr hh)).trans ?_
  refine (congrArg rxAdvance (rxAdvance_underWay_body hr' (by simp))).trans ((ha (underWay ..) rfl rfl rfl).trans ?_)
  exact underWay_absorb hidle i _ _ line' _ e

end

end Sys2Proof.Machine

namespace Sys2Proof.Proofs

open Sys2Proof.Machine

/-- Settles O26: the guard is the phase, and without a channel the attempt ends in the step that issues it
(`attempt_cases`). -/
theorem attemptNeedsIdleAndChannel : Obligations.AttemptNeedsIdleAndChannel := by
  intro i timeoutMs s hi
  rw [exec_of_attemptBudget hi]
  rcases attempt_cases timeoutMs (decide (i = .poll)) s with ⟨hbusy, h⟩ | ⟨hidle, hc, h⟩ | ⟨hidle, hc, -⟩
  · exact ⟨fun _ => h, fun hidle => absurd hidle hbusy⟩
  · refine ⟨fun hbusy => absurd hidle hbusy, fun _ _ => h.trans ?_⟩
    simp [State.raise, State.emit, State.endAttempt, countEvent, returned, hidle]
  · exact ⟨fun hbusy => absurd hidle hbusy, fun _ hc' => by simp [hc] at hc'⟩

/-- Settles O27: the first transition absorbs the answer (`exec_attempt_fails_in_header`), and only a timeout has a
counter. -/
theorem attemptEndsInHeaderWait : Obligations.AttemptEndsInHeaderWait := by
  intro i timeoutMs s a line hi hidle hconf hr
  cases a with
  | timeout => exact exec_attempt_fails_in_header hi hidle hconf hr (fun _ => rfl)
  | fault => exact exec_attempt_fails_in_header hi hidle hconf hr (fun _ => rfl)
  | bytes h => exact fun hh => exec_attempt_fails_in_header hi hidle hconf hr (fun _ => if_pos hh)

/-- Settles O28: the second transition absorbs the answer (`exec_attempt_fails_in_body`). -/
theorem attemptEndsInBodyWait : Obligations.AttemptEndsInBodyWait := fun _ _ _ _ _ _ hi hidle hconf hr hh =>
  ⟨fun hr' => exec_attempt_fails_in_body hi hidle hconf hr hh hr' (fun _ => rfl),
    fun hr' => exec_attempt_fails_in_body hi hidle hconf hr hh hr' (fun _ => rfl)⟩

/-- Settles O29: the third transition rejects the buffer (`exec_attempt_fails_in_checks`), first for its footer
(`rxAdvance_wrong_footer`), then for its CRC (`rxAdvance_wrong_crc`). -/
theorem attemptEndsInValidation : Obligations.AttemptEndsInValidation := by
  intro i timeoutMs s h v line line' hi hidle hconf hr hh hr'
  have hfooter : (received v)[47] = v[46] := received_getElem_succ v (by decide)
  have hcrc : (received v)[46] = v[45] := received_getElem_succ v (by decide)
  refine ⟨fun hf => ?_, fun hf hc => ?_⟩
  · refine exec_attempt_fails_in_checks hi hidle hconf hr hh hr' fun u hx hs hb => rxAdvance_wrong_footer hx hs ?_
    rwa [hb, hfooter]
  · refine exec_attempt_fails_in_checks hi hidle hconf hr hh hr' fun u hx hs hb => rxAdvance_wrong_crc hx hs ?_ ?_ ?_
    · rw [hb, received_getElem_zero]
    · rwa [hb, hfooter]
    · rwa [hb, hcrc, bodyOf_received]

/-- Settles O31: without an answer the transition does nothing, so the attempt stops there (`exec_attempt_of_fixed`). -/
theorem attemptWaitsForItsAnswer : Obligations.AttemptWaitsForItsAnswer := by
  intro i timeoutMs s hi hidle hconf
  refine ⟨fun hr => ?_, fun h line hr hh hr' => ?_⟩
  · exact exec_attempt_of_fixed hi hidle hconf 0 (by decide) rfl
      (rxAdvance_header_waits (s := underWay i .awaitingHeader _ s.env.rxLine _ s) rfl hr)
  · exact exec_attempt_of_fixed hi hidle hconf 1 (by decide) (rxAdvance_underWay_header hr hh)
      (rxAdvance_body_waits (s := underWay i .awaitingFooter _ line _ s) rfl hr')

/-- Settles O39: behind the stray byte the body read takes all of the frame but its last byte, and then the frame's CRC byte
stands where the footer should be. -/
theorem falseHeaderCostsTheFrame : Obligations.FalseHeaderCostsTheFrame := by
  intro i timeoutMs s r rest hi hidle hconf hcrc hline
  have hr : chanRead 1 s.env.rxLine = some (.bytes #v[0xAA#8], (frameOfRecord r).toList.map .byte ++ rest) :=
    hline ▸ chanRead_bytes #v[0xAA#8] ((frameOfRecord r).toList.map .byte ++ rest)
  have hr' : chanRead 47 ((frameOfRecord r).toList.map .byte ++ rest) =
      some (.bytes (frameWithoutFooter r), .byte 0x55#8 :: rest) := by
    rw [frameOfRecord_toList_eq_append_footer, List.map_append, List.append_assoc]
    exact chanRead_bytes (frameWithoutFooter r) (.byte 0x55#8 :: rest)
  have hfooter : (received (frameWithoutFooter r))[47] = r.crc :=
    (received_getElem_succ _ (by decide)).trans (frameWithoutFooter_getElem_last r)
  have hfails := exec_attempt_fails_in_checks hi hidle hconf hr rfl hr' fun u hx hs hb =>
    rxAdvance_wrong_footer hx hs (by rwa [hb, hfooter])
  exact ⟨_, hfails, hidle, rfl, rfl, rfl, rfl⟩

end Sys2Proof.Proofs

/-! PROOFS. An attempt that accepts a frame (43_receiver R148 to R153), the link from one node to another, and the whole
transition table (R155). -/

namespace Sys2Proof.Machine

variable {s : State}

/-! ### An accepted frame -/

/-- The formula of R148 as the rules write it. -/
theorem lossOf_eq_ite (sequence cursor : Byte) :
    lossOf sequence cursor =
      BitVec.ofNat 32 (if 1 < (sequence - cursor).toNat then (sequence - cursor).toNat - 1 else 0) := by
  rw [lossOf_eq]
  split
  · rfl
  next hgap => rw [Nat.sub_eq_zero_of_le (Nat.le_of_not_lt hgap)]

/-- The attempt that `i` has begun in `s` once its frame is committed: the clock is read, the accounting done, step 9 next. -/
def attemptCommitted (i : Instr) (buffer : Vector Byte 48) (line : List LineItem) (requests : List Output) (s : State) :
    State :=
  { commit (recordOfFrame buffer) s.nowAnswer s with
    rxState := .validating
    rxbuf := buffer
    clockReads := s.clockReads + 1
    stage := .committed
    pollAttempt := decide (i = .poll)
    env := { s.env with clock := s.env.clock.tail, rxLine := line }
    outputs := s.outputs ++ (requests ++ [.now s.nowAnswer]) }

theorem rxAdvance_underWay_accepts {i : Instr} {buffer : Vector Byte 48} {line : List LineItem} {requests : List Output}
    (hv : validFrame buffer) :
    rxAdvance (rxAdvance (underWay i .validating buffer line requests s)) =
      attemptCommitted i buffer line requests s := by
  rw [rxAdvance_accepts_frame (s := underWay ..) rfl rfl hv, attemptCommitted, ← List.append_assoc]
  rfl

/-- The same attempt once its record is delivered (R153, 60_exceptions R202). -/
def attemptDelivering (i : Instr) (buffer : Vector Byte 48) (line : List LineItem) (requests : List Output) (s : State) :
    State :=
  { attemptCommitted i buffer line requests s with stage := .delivering }.emit (.deliver (recordOfFrame buffer))

theorem rxAdvance_attemptCommitted {i : Instr} {buffer : Vector Byte 48} {line : List LineItem} {requests : List Output}
    (hc : s.consumerEn = true) :
    rxAdvance (attemptCommitted i buffer line requests s) = attemptDelivering i buffer line requests s :=
  rxAdvance_delivers_record (s := attemptCommitted ..) rfl rfl hc

section

variable {i : Instr} {timeoutMs : U32} (hi : attemptBudget i = some timeoutMs) (hidle : s.rxState = .idle)
  (hconf : s.configured = true) {h : Vector Byte 1} {v : Vector Byte 47} {line line' : List LineItem}
  (hr : chanRead 1 s.env.rxLine = some (.bytes h, line)) (hh : h[0] = Config.headerByte)
  (hr' : chanRead 47 line = some (.bytes v, line')) (hv : validFrame (received v))

include hi hidle hconf hr hh hr' hv

/-- An attempt that has committed its frame stops where the delivery lets it stop. -/
theorem exec_attempt_accepts {u : State} (k : Nat) (hk : k ≤ 2)
    (h : rxAdvance^[k] (attemptCommitted i (received v) line' [.chanRead 1 timeoutMs, .chanRead 47 Config.tBodyMs] s) = u)
    (hfix : rxAdvance u = u) : exec i s = .next u := by
  refine exec_attempt_of_fixed hi hidle hconf (k + 4) (by omega) ?_ hfix
  rw [Function.iterate_add_apply, ← h]
  refine congrArg rxAdvance^[k] ?_
  refine (congrArg rxAdvance^[3] (rxAdvance_underWay_header hr hh)).trans ?_
  exact (congrArg rxAdvance^[2] (rxAdvance_underWay_body hr' (by simp))).trans (rxAdvance_underWay_accepts hv)

/-- Without a consumer the attempt ends behind the commit (R153). -/
theorem exec_attempt_accepts_without_consumer (hc : s.consumerEn = false) :
    exec i s = .next ((attemptCommitted i (received v) line'
      [.chanRead 1 timeoutMs, .chanRead 47 Config.tBodyMs] s).endAttempt .dataReceived) :=
  exec_attempt_accepts hi hidle hconf hr hh hr' hv 1 (by decide)
    (rxAdvance_ends_without_consumer (s := attemptCommitted ..) rfl rfl hc) (endAttempt_fixed _ _)

/-- With a consumer that returns the record is delivered once, and the return ends the attempt (R153). -/
theorem exec_attempt_accepts_with_consumer (hc : s.consumerEn = true) {n : Nat} (hn : s.env.consumerReturns = n + 1) :
    exec i s = .next ({ attemptDelivering i (received v) line'
      [.chanRead 1 timeoutMs, .chanRead 47 Config.tBodyMs] s with
        env := { s.env with clock := s.env.clock.tail, rxLine := line', consumerReturns := n } }.endAttempt
          .dataReceived) :=
  exec_attempt_accepts hi hidle hconf hr hh hr' hv 2 (by decide)
    ((congrArg rxAdvance (rxAdvance_attemptCommitted hc)).trans
      (rxAdvance_consumer_returns (s := attemptDelivering ..) rfl rfl hn)) (endAttempt_fixed _ _)

/-- With a consumer that has not returned the attempt stays in the delivery (60_exceptions R202). -/
theorem exec_attempt_accepts_waiting_for_consumer (hc : s.consumerEn = true) (hn : s.env.consumerReturns = 0) :
    exec i s = .next (attemptDelivering i (received v) line' [.chanRead 1 timeoutMs, .chanRead 47 Config.tBodyMs] s) :=
  exec_attempt_accepts hi hidle hconf hr hh hr' hv 1 (by decide) (rxAdvance_attemptCommitted hc)
    (rxAdvance_consumer_waits (s := attemptDelivering ..) rfl rfl hn)

end

/-! ### The rows of the table that end in Idle -/

/-- The state after an attempt that failed with the event `e`: the line, the statistics, the event and the negative result are
new, and the buffer is dead (60_exceptions R198). -/
def failedWith (line : List LineItem) (stats : LinkStats) (e : Event) (s : State) : State :=
  { s with
    rxState := .idle
    stats := stats
    rxbuf := Config.freeBuffer s.deadBuffers
    deadBuffers := s.deadBuffers + 1
    stage := .checking
    pollAttempt := false
    env := { s.env with rxLine := line }
    outputs := s.outputs ++ [.event e] ++ if s.pollAttempt then [] else [.result (.tryReceive .noData)] }

theorem absorb_eq_failedWith (e : Event) (s : State) :
    s.absorb e = failedWith s.env.rxLine (countEvent e s.stats) e s := rfl

theorem setLine_absorb_eq_failedWith (line : List LineItem) (e : Event) (s : State) :
    (s.setLine line).absorb e = failedWith line (countEvent e s.stats) e s := rfl

end Sys2Proof.Machine

namespace Sys2Proof.Proofs

open Sys2Proof.Machine

/-- Settles O30: the attempt commits the frame (`exec_attempt_accepts`), and the consumer decides where it stops. -/
theorem attemptAcceptsFrame : Obligations.AttemptAcceptsFrame := by
  intro i timeoutMs s h v line line' hi hidle hconf hr hh hr' hf hc
  have hv : validFrame (received v) := (validFrame_received_iff v).mpr ⟨hf, hc.symm⟩
  refine ⟨recordOfFrame (received v), (decodeFrame_eq_ok_iff _ _).mpr ⟨hv, rfl⟩,
    received_getElem_succ v (k := 44) (by decide), received_getElem_succ v (k := 45) (by decide), ?_⟩
  intro k t
  refine ⟨fun hcons => ?_, fun n hcons hn => ?_, fun hcons hn => ?_⟩
  · rw [exec_attempt_accepts_without_consumer hi hidle hconf hr hh hr' hv hcons]
    simp [t, k, attemptCommitted, State.endAttempt, commit, lossOf_eq_ite, ewma, returned, hidle]
  · rw [exec_attempt_accepts_with_consumer hi hidle hconf hr hh hr' hv hcons hn]
    simp [t, k, attemptDelivering, attemptCommitted, State.endAttempt, State.emit, commit, lossOf_eq_ite, ewma, returned,
      hidle]
  · rw [exec_attempt_accepts_waiting_for_consumer hi hidle hconf hr hh hr' hv hcons hn]
    simp [t, k, attemptDelivering, attemptCommitted, State.emit, commit, lossOf_eq_ite, ewma]

/-- Settles O33: in each row the answer or the buffer decides which transition `rxAdvance` takes, and the rows that end with an
event all take it in the same way (`absorb_eq_failedWith`). -/
theorem receiverTransitionTable : Obligations.ReceiverTransitionTable := by
  intro s returns failed accepted timedOut r k
  refine ⟨fun i timeoutMs hi => ⟨fun hidle hconf => ?_, fun hbusy => ?_⟩, ?_⟩
  · rw [exec_attempt_of_idle hi hidle hconf]
    rfl
  · rw [exec_of_attemptBudget hi]
    exact if_pos hbusy
  split
  next hx => exact rxAdvance_idle hx
  next hx =>
    split
    next hr => exact rxAdvance_header_waits hx hr
    next hr => exact (rxAdvance_header hx hr).trans (setLine_absorb_eq_failedWith _ _ _)
    next hr => exact (rxAdvance_header hx hr).trans (setLine_absorb_eq_failedWith _ _ _)
    next hr =>
      split
      next hh => exact rxAdvance_header_matches hx hr hh
      next hh => exact (rxAdvance_header_mismatch hx hr hh).trans (setLine_absorb_eq_failedWith _ _ _)
  next hx =>
    split
    next hr => exact rxAdvance_body_waits hx hr
    next hr => exact (rxAdvance_body hx hr).trans (setLine_absorb_eq_failedWith _ _ _)
    next hr => exact (rxAdvance_body hx hr).trans (setLine_absorb_eq_failedWith _ _ _)
    next hr => exact rxAdvance_body hx hr
  next hx =>
    split
    next hs =>
      intro hh
      split
      next hf =>
        have hfooter : s.rxbuf[47] ≠ Config.footerByte := hf
        exact (rxAdvance_wrong_footer hx hs hfooter).trans (absorb_eq_failedWith _ _)
      next hf =>
        have hfooter : s.rxbuf[47] = Config.footerByte := not_not.mp hf
        split
        next hc =>
          have hcrc : crc8 (bodyOf s.rxbuf) ≠ s.rxbuf[46] := hc
          exact (rxAdvance_wrong_crc hx hs hh hfooter hcrc).trans (absorb_eq_failedWith _ _)
        next hc =>
          have hcrc : crc8 (bodyOf s.rxbuf) = s.rxbuf[46] := not_not.mp hc
          exact rxAdvance_reads_clock hx hs ⟨hh, hfooter, hcrc.symm⟩
    next now hs =>
      rw [rxAdvance_commits hx hs]
      simp [commitTimed, commit, lossOf_eq_ite, ewma, r, k]
    next hs =>
      split
      next hc => exact rxAdvance_delivers_record hx hs hc
      next hc => exact rxAdvance_ends_without_consumer hx hs (Bool.eq_false_iff.mpr hc)
    next hs =>
      split
      next hn => exact rxAdvance_consumer_waits hx hs hn
      next n hn => exact rxAdvance_consumer_returns hx hs hn

/-- Settles O55: the frame a `SEND` hands over is the frame of its sealed record, which the other node reads, commits and
delivers (`exec_attempt_accepts_with_consumer`, `recordOfFrame_frameOfRecord`). -/
theorem linkEndToEnd : Obligations.LinkEndToEnd := by
  intro ir us a b wa was timeoutMs n rest hs hc hw
  refine ⟨_, encodeFrame ir us a.nowAnswer a.txSeq, exec_send_of_passes ir us hs hc, ?_, ?_⟩
  · have hbegun : .chanWrite (encodeFrame ir us a.nowAnswer a.txSeq) Config.tTxMs ∈
        (beginSend ir us a).outputs.drop a.outputs.length := by simp
    exact ((txAdvance_outputs_prefix (beginSend ir us a)).drop _).subset hbegun
  · intro hidle hconf hcons hret hline
    have hv : validFrame (encodeFrame ir us a.nowAnswer a.txSeq) := validFrame_encodeFrame ir us a.nowAnswer a.txSeq
    obtain ⟨v, hreceived⟩ := exists_eq_received hv.1
    have hrecord : recordOfFrame (received v) = sealRecord ir us a.nowAnswer a.txSeq := by
      rw [← hreceived]; exact recordOfFrame_frameOfRecord _
    rw [hreceived] at hv hline
    have hr := chanRead_header_received v rest
    rw [← hline] at hr
    refine ⟨_, exec_attempt_accepts_with_consumer rfl hidle hconf hr rfl (chanRead_bytes v rest) hv hcons hret, ?_⟩
    simp [attemptDelivering, attemptCommitted, hrecord, sealRecord, txAdvance_txSeq]

end Sys2Proof.Proofs

/-! PROOFS. `POLL` beside `TRY_RECEIVE` (43_receiver R157): two attempts that differ in the bookkeeping bit go through the same
transitions. Then the events of an attempt (60_exceptions section 1). -/

namespace Sys2Proof.Machine

variable {s t u : State}

/-! ### A poll and an attempt with a result -/

/-- The attempt as a poll's, or as one whose result is handed out. -/
def State.asPoll (s : State) (byPoll : Bool) : State := { s with pollAttempt := byPoll }

/-- `t` and `u` are one attempt, `u` as a poll's: under way they differ in the bit, and at the end in the result. -/
def PollTwins (t u : State) : Prop :=
  (t.rxState ≠ .idle ∧ t.pollAttempt = false ∧ u = t.asPoll true) ∨
  (t.rxState = .idle ∧ ∃ r, t = { u with outputs := u.outputs ++ [.result (.tryReceive r)] })

theorem pollTwins_endAttempt (hp : s.pollAttempt = false) (r : Receipt) :
    PollTwins (s.endAttempt r) ((s.asPoll true).endAttempt r) := by
  refine .inr ⟨rfl, r, ?_⟩
  simp [State.endAttempt, State.asPoll, hp]

theorem pollTwins_absorb (hp : s.pollAttempt = false) (e : Event) : PollTwins (s.absorb e) ((s.asPoll true).absorb e) :=
  pollTwins_endAttempt (s := (s.raise e).loseRxbuf) hp .noData

theorem pollTwins_headerAnswered (hp : s.pollAttempt = false) (a : ReadAnswer 1) :
    PollTwins (headerAnswered a s) (headerAnswered a (s.asPoll true)) := by
  cases a with
  | timeout | fault => exact pollTwins_absorb hp _
  | bytes h =>
    by_cases hh : h[0] = Config.headerByte
    · simp only [headerAnswered, hh, ne_eq, not_true_eq_false, ↓reduceIte]
      exact .inl ⟨by simp, hp, rfl⟩
    · simp only [headerAnswered, hh, ne_eq, not_false_eq_true, ↓reduceIte]
      exact pollTwins_absorb hp _

theorem pollTwins_bodyAnswered (hp : s.pollAttempt = false) (a : ReadAnswer 47) :
    PollTwins (bodyAnswered a s) (bodyAnswered a (s.asPoll true)) := by
  cases a with
  | timeout | fault => exact pollTwins_absorb hp _
  | bytes v => exact .inl ⟨by simp [bodyAnswered], hp, rfl⟩

theorem pollTwins_validate (hx : s.rxState ≠ .idle) (hp : s.pollAttempt = false) :
    PollTwins (validate s) (validate (s.asPoll true)) := by
  by_cases hf : s.rxbuf[47] = Config.footerByte
  · cases hd : decodeFrame s.rxbuf with
    | ok r =>
      simp only [validate, State.asPoll, hf, hd, ne_eq, not_true_eq_false, ↓reduceIte]
      exact .inl ⟨hx, hp, rfl⟩
    | badHeader | badFooter | checksumMismatch =>
      simp only [validate, State.asPoll, hf, hd, ne_eq, not_true_eq_false, ↓reduceIte]
      exact pollTwins_absorb hp _
  · simp only [validate, State.asPoll, hf, ne_eq, not_false_eq_true, ↓reduceIte]
    exact pollTwins_absorb hp _

/-- No transition looks at the bit before the end of the attempt. -/
theorem pollTwins_rxAdvance_of_under_way (hx : s.rxState ≠ .idle) (hp : s.pollAttempt = false) :
    PollTwins (rxAdvance s) (rxAdvance (s.asPoll true)) := by
  have hstays : PollTwins s (s.asPoll true) := .inl ⟨hx, hp, rfl⟩
  cases hphase : s.rxState with
  | idle => exact absurd hphase hx
  | awaitingHeader =>
    cases hr : chanRead 1 s.env.rxLine with
    | none => rwa [rxAdvance_header_waits hphase hr, rxAdvance_header_waits (s := s.asPoll true) hphase hr]
    | some p =>
      rw [rxAdvance_header hphase hr, rxAdvance_header (s := s.asPoll true) hphase hr]
      exact pollTwins_headerAnswered (s := s.setLine p.2) hp p.1
  | awaitingFooter =>
    cases hr : chanRead 47 s.env.rxLine with
    | none => rwa [rxAdvance_body_waits hphase hr, rxAdvance_body_waits (s := s.asPoll true) hphase hr]
    | some p =>
      rw [rxAdvance_body hphase hr, rxAdvance_body (s := s.asPoll true) hphase hr]
      exact pollTwins_bodyAnswered (s := s.setLine p.2) hp p.1
  | validating =>
    cases hs : s.stage with
    | checking =>
      rw [rxAdvance_validates hphase hs, rxAdvance_validates (s := s.asPoll true) hphase hs]
      exact pollTwins_validate hx hp
    | timed now =>
      rw [rxAdvance_commits hphase hs, rxAdvance_commits (s := s.asPoll true) hphase hs]
      exact .inl ⟨hx, hp, rfl⟩
    | committed =>
      cases hc : s.consumerEn with
      | false =>
        rw [rxAdvance_ends_without_consumer hphase hs hc,
          rxAdvance_ends_without_consumer (s := s.asPoll true) hphase hs hc]
        exact pollTwins_endAttempt hp _
      | true =>
        rw [rxAdvance_delivers_record hphase hs hc, rxAdvance_delivers_record (s := s.asPoll true) hphase hs hc]
        exact .inl ⟨hx, hp, rfl⟩
    | delivering =>
      cases hn : s.env.consumerReturns with
      | zero => rwa [rxAdvance_consumer_waits hphase hs hn, rxAdvance_consumer_waits (s := s.asPoll true) hphase hs hn]
      | succ n =>
        rw [rxAdvance_consumer_returns hphase hs hn, rxAdvance_consumer_returns (s := s.asPoll true) hphase hs hn]
        exact pollTwins_endAttempt (s := { s with env := { s.env with consumerReturns := n } }) hp _

theorem PollTwins.rxAdvance (h : PollTwins t u) : PollTwins (rxAdvance t) (rxAdvance u) := by
  rcases h with ⟨hx, hp, rfl⟩ | ⟨hidle, r, rfl⟩
  · exact pollTwins_rxAdvance_of_under_way hx hp
  · rw [rxAdvance_idle hidle, rxAdvance_idle (s := u) hidle]
    exact .inr ⟨hidle, r, rfl⟩

theorem PollTwins.runAttempt (h : PollTwins t u) : PollTwins (runAttempt t) (runAttempt u) :=
  h.rxAdvance.rxAdvance.rxAdvance.rxAdvance.rxAdvance.rxAdvance

/-- Both attempts from the same idle state (R142, R157). -/
theorem exec_pollTwins (hidle : s.rxState = .idle) :
    ∃ t u, exec (.tryReceive 0) s = .next t ∧ exec .poll s = .next u ∧ PollTwins t u := by
  cases hc : s.configured with
  | false =>
    refine ⟨_, _, ?_, ?_, pollTwins_endAttempt (s := { s with pollAttempt := false }.raise .channelUnconfigured) rfl .noData⟩
    · simp [exec, execTryReceive, attempt, hidle, hc]
    · simp [exec, execPoll, attempt, hidle, hc]
      rfl
  | true =>
    refine ⟨_, _, exec_attempt_of_idle rfl hidle hc, exec_attempt_of_idle rfl hidle hc, PollTwins.runAttempt ?_⟩
    exact .inl ⟨by simp, rfl, rfl⟩

theorem PollTwins.agree (h : PollTwins t u) :
    { u with pollAttempt := false, outputs := [] } = ({ t with pollAttempt := false, outputs := [] } : State) ∧
    if t.rxState = .idle then ∃ r, t.outputs = u.outputs ++ [.result (.tryReceive r)] else t.outputs = u.outputs := by
  rcases h with ⟨hx, -, rfl⟩ | ⟨hidle, r, rfl⟩
  · exact ⟨rfl, by rw [if_neg hx]; rfl⟩
  · exact ⟨rfl, by rw [if_pos hidle]; exact ⟨r, rfl⟩⟩

/-! ### The events of an attempt -/

/-- From `s` to `t` at most one event was recorded, and one only if the attempt has ended. -/
def AtMostOneEvent (s t : State) : Prop :=
  ∃ new, t.outputs = s.outputs ++ new ∧ new.countP Output.isEvent ≤ 1 ∧
    (new.countP Output.isEvent = 1 → t.rxState = .idle)

theorem atMostOneEvent_of_none {new : List Output} (h : t.outputs = s.outputs ++ new)
    (hnone : new.countP Output.isEvent = 0) : AtMostOneEvent s t :=
  ⟨new, h, by omega, fun hone => by omega⟩

theorem atMostOneEvent_of_idle {new : List Output} (h : t.outputs = s.outputs ++ new)
    (hone : new.countP Output.isEvent ≤ 1) (hidle : t.rxState = .idle) : AtMostOneEvent s t :=
  ⟨new, h, hone, fun _ => hidle⟩

theorem atMostOneEvent_refl (s : State) : AtMostOneEvent s s :=
  atMostOneEvent_of_none (List.append_nil _).symm rfl

/-- The result of an attempt is no event. -/
theorem countP_isEvent_result (byPoll : Bool) (r : Receipt) :
    (if byPoll then [] else [Output.result (.tryReceive r)]).countP Output.isEvent = 0 := by
  cases byPoll <;> rfl

theorem atMostOneEvent_endAttempt (s : State) (r : Receipt) : AtMostOneEvent s (s.endAttempt r) :=
  atMostOneEvent_of_none rfl (countP_isEvent_result s.pollAttempt r)

theorem atMostOneEvent_absorb (s : State) (e : Event) : AtMostOneEvent s (s.absorb e) :=
  atMostOneEvent_of_idle (List.append_assoc ..)
    (by rw [List.countP_append, countP_isEvent_result]; exact Nat.le_refl 1) rfl

theorem atMostOneEvent_rxAdvance (s : State) : AtMostOneEvent s (rxAdvance s) := by
  rcases rxAdvance_cases s with h | ⟨-, a, line, -, h⟩ | ⟨-, a, line, -, h⟩ | ⟨-, -, h⟩ | ⟨-, now, -, h⟩ | ⟨-, -, h⟩ |
    ⟨-, -, k, -, h⟩ <;> rw [h]
  · exact atMostOneEvent_refl s
  · rcases headerAnswered_cases a (s.setLine line) with ⟨-, ha⟩ | ⟨-, ha⟩ | ⟨-, -, -, ha⟩ | ⟨-, -, -, ha⟩ <;> rw [ha]
    · exact atMostOneEvent_absorb _ _
    · exact atMostOneEvent_absorb _ _
    · exact atMostOneEvent_absorb _ _
    · exact atMostOneEvent_of_none rfl rfl
  · rcases bodyAnswered_cases a (s.setLine line) with ⟨-, ha⟩ | ⟨-, ha⟩ | ⟨v, -, ha⟩ <;> rw [ha]
    · exact atMostOneEvent_absorb _ _
    · exact atMostOneEvent_absorb _ _
    · exact atMostOneEvent_of_none (List.append_nil _).symm rfl
  · rcases validate_cases s with ⟨_, hv⟩ | ⟨-, hv⟩ | ⟨-, hv⟩ <;> rw [hv]
    · exact atMostOneEvent_absorb _ _
    · exact atMostOneEvent_absorb _ _
    · exact atMostOneEvent_of_none rfl rfl
  · exact atMostOneEvent_of_none (List.append_nil _).symm rfl
  · rcases deliverOrEnd_cases s with ⟨-, hd⟩ | ⟨-, hd⟩ <;> rw [hd]
    · exact atMostOneEvent_endAttempt s _
    · exact atMostOneEvent_of_none rfl rfl
  · exact atMostOneEvent_endAttempt _ _

/-- An event is the last one: after it the attempt has ended and makes no transition. -/
theorem AtMostOneEvent.rxAdvance (h : AtMostOneEvent s t) : AtMostOneEvent s (rxAdvance t) := by
  by_cases hidle : t.rxState = .idle
  · rwa [rxAdvance_idle hidle]
  · obtain ⟨new, hnew, hle, hend⟩ := h
    obtain ⟨more, hmore, hle', hend'⟩ := atMostOneEvent_rxAdvance t
    have hnone : new.countP Output.isEvent = 0 := by
      have hne : new.countP Output.isEvent ≠ 1 := fun hone => hidle (hend hone)
      omega
    refine ⟨new ++ more, by rw [hmore, hnew, List.append_assoc], ?_⟩
    rw [List.countP_append, hnone, Nat.zero_add]
    exact ⟨hle', hend'⟩

theorem atMostOneEvent_attempt {timeoutMs : U32} {byPoll : Bool} (h : attempt timeoutMs byPoll s = .next t) :
    AtMostOneEvent s t := by
  rcases attempt_cases timeoutMs byPoll s with ⟨-, h'⟩ | ⟨-, -, h'⟩ | ⟨-, -, h'⟩ <;> rw [h'] at h <;> cases h
  · exact atMostOneEvent_of_idle (List.append_assoc ..)
      (by rw [List.countP_append, countP_isEvent_result]; exact Nat.le_refl 1) rfl
  · exact runAttempt_induction (P := AtMostOneEvent s) (fun _ => AtMostOneEvent.rxAdvance)
      (atMostOneEvent_of_none rfl rfl)

end Sys2Proof.Machine

namespace Sys2Proof.Proofs

open Sys2Proof.Machine

/-- Settles O32: the two attempts go through the same transitions (`PollTwins.rxAdvance`) and part only where the result is
handed out (`pollTwins_endAttempt`). -/
theorem pollIsZeroTimeoutAttempt : Obligations.PollIsZeroTimeoutAttempt := by
  intro s hidle
  obtain ⟨t, u, ht, hu, htwins⟩ := exec_pollTwins hidle
  exact ⟨t, u, ht, hu, htwins.agree⟩

/-- Settles O34: a transition that records an event ends the attempt (`atMostOneEvent_rxAdvance`), and none follows the end
(`AtMostOneEvent.rxAdvance`). -/
theorem attemptRaisesAtMostOneEvent : Obligations.AttemptRaisesAtMostOneEvent := by
  refine ⟨fun i timeoutMs s t hi h => ?_, atMostOneEvent_rxAdvance⟩
  rw [exec_of_attemptBudget hi] at h
  exact atMostOneEvent_attempt h

end Sys2Proof.Proofs

/-! PROOFS. An attempt whose transitions are inputs, with `GET_STATS` and `RESET_STATS` between any two of them (20_memory R62,
44_stats_config R175). Where the attempt stands does not depend on the statistics, the cursor and what was handed out; what
each transition does to these three is said once (`AttemptAt.rxAdvance`). -/

namespace Sys2Proof.Machine

variable {s t : State} {f : Vector Byte 48} {line : List LineItem}

/-! ### Where an attempt stands -/

/-- What ends the attempt is as in `s`: the consumer, its returns, and who issued the attempt. -/
def SameEnding (s t : State) : Prop :=
  t.consumerEn = s.consumerEn ∧ t.env.consumerReturns = s.env.consumerReturns ∧ t.pollAttempt = s.pollAttempt

/-- The body read takes the rest of the frame `f` and leaves `line`. -/
def BodyAhead (f : Vector Byte 48) (line l : List LineItem) : Prop :=
  ∃ v, f = received v ∧ chanRead 47 l = some (.bytes v, line)

/-- The attempt that takes the frame `f`, behind `j` of its transitions; its clock answer and its ending are those of `s`. -/
def AttemptAt (s : State) (f : Vector Byte 48) (line : List LineItem) : Nat → State → Prop
  | 0, t => t.rxState = .awaitingHeader ∧ t.stage = .checking ∧ t.nowAnswer = s.nowAnswer ∧ SameEnding s t ∧
      ∃ h l, chanRead 1 t.env.rxLine = some (.bytes h, l) ∧ h[0] = Config.headerByte ∧ BodyAhead f line l
  | 1, t => t.rxState = .awaitingFooter ∧ t.stage = .checking ∧ t.nowAnswer = s.nowAnswer ∧ SameEnding s t ∧
      t.rxbuf[0] = Config.headerByte ∧ BodyAhead f line t.env.rxLine
  | 2, t => t.rxState = .validating ∧ t.stage = .checking ∧ t.nowAnswer = s.nowAnswer ∧ SameEnding s t ∧
      t.rxbuf = f ∧ t.env.rxLine = line
  | 3, t => t.rxState = .validating ∧ t.stage = .timed s.nowAnswer ∧ SameEnding s t ∧ t.rxbuf = f ∧ t.env.rxLine = line
  | 4, t => t.rxState = .validating ∧ t.stage = .committed ∧ SameEnding s t ∧ t.rxbuf = f ∧ t.env.rxLine = line
  | 5, t => t.env.rxLine = line ∧
      if s.consumerEn then t.rxState = .validating ∧ t.stage = .delivering ∧ SameEnding s t else t.rxState = .idle
  | _, t => t.env.rxLine = line ∧ t.rxState = .idle

/-- Where an attempt stands does not depend on the accounts, on what was handed out and on what happens next. -/
theorem AttemptAt.with_accounts {j : Nat} (h : AttemptAt s f line j t) (stats : LinkStats) (cursor : Byte)
    (outputs : List Output) (inputs : List Input) :
    AttemptAt s f line j
      { t with stats := stats, expectedSeq := cursor, outputs := outputs, env := { t.env with inputs := inputs } } := by
  rcases j with _ | _ | _ | _ | _ | _ | j <;> exact h

/-! ### What each transition does to the accounts -/

/-- The statistics once the record is counted on what was there before (43_receiver R148 to R152). -/
def countedOn (s : State) (r : Record) (before : LinkStats) (cursor : Byte) : LinkStats :=
  { before with
    packetsReceived := before.packetsReceived + 1
    packetsLost := before.packetsLost + lossOf r.sequence cursor
    avgLatency := ewma before.avgLatency (s.nowAnswer - r.timestamp) }

/-- What the attempt returns at its end. -/
def resultOutputs (s : State) : List Output := if s.pollAttempt then [] else [.result (.tryReceive .dataReceived)]

/-- What the attempt hands out, transition by transition. -/
def attemptOutputs (s : State) (r : Record) : List (List Output) :=
  [[.chanRead 47 Config.tBodyMs], [], [.now s.nowAnswer], [],
    if s.consumerEn then [.deliver r] else resultOutputs s, if s.consumerEn then resultOutputs s else []]

/-- From `t` to `u` the `n` transitions behind the `j`-th were made: their outputs, and the commit if the fourth is one of
them. -/
def AttemptWalks (s : State) (r : Record) (j n : Nat) (t u : State) : Prop :=
  u.outputs = t.outputs ++ (((attemptOutputs s r).drop j).take n).flatten ∧
  u.stats = (if j ≤ 3 ∧ 3 < j + n then countedOn s r t.stats t.expectedSeq else t.stats) ∧
  u.expectedSeq = (if j ≤ 3 ∧ 3 < j + n then r.sequence + 1 else t.expectedSeq)

theorem AttemptWalks.refl (s : State) (r : Record) (j : Nat) (t : State) : AttemptWalks s r j 0 t t :=
  ⟨by simp, (if_neg (by omega)).symm, (if_neg (by omega)).symm⟩

/-- The fourth transition is in at most one of two walks that follow one another. -/
theorem AttemptWalks.trans {r : Record} {j m n : Nat} {u w : State} (h : AttemptWalks s r j m t u)
    (h' : AttemptWalks s r (j + m) n u w) : AttemptWalks s r j (m + n) t w := by
  obtain ⟨hout, hstats, hcursor⟩ := h
  obtain ⟨hout', hstats', hcursor'⟩ := h'
  refine ⟨by rw [hout', hout, List.take_add, List.drop_drop, List.flatten_append, List.append_assoc], ?_⟩
  rw [hstats', hcursor', hstats, hcursor]
  by_cases hfirst : j ≤ 3 ∧ 3 < j + m
  · have hsecond : ¬ (j + m ≤ 3 ∧ 3 < j + m + n) := by omega
    have hboth : j ≤ 3 ∧ 3 < j + (m + n) := by omega
    simp only [hfirst, hsecond, hboth, and_self, ↓reduceIte]
  · have hboth : (j ≤ 3 ∧ 3 < j + (m + n)) ↔ (j + m ≤ 3 ∧ 3 < j + m + n) := by omega
    simp only [hfirst, hboth, ↓reduceIte, and_self]

theorem AttemptAt.rxAdvance_header (h : AttemptAt s f line 0 t) :
    AttemptAt s f line 1 (rxAdvance t) ∧ AttemptWalks s (recordOfFrame f) 0 1 t (rxAdvance t) := by
  obtain ⟨hx, hs, hnow, hend, hd, l, hr, hh, hbody⟩ := h
  rw [rxAdvance_header_matches hx hr hh]
  exact ⟨⟨rfl, hs, hnow, hend, by simp, hbody⟩, rfl, rfl, rfl⟩

theorem AttemptAt.rxAdvance_body (h : AttemptAt s f line 1 t) :
    AttemptAt s f line 2 (rxAdvance t) ∧ AttemptWalks s (recordOfFrame f) 1 1 t (rxAdvance t) := by
  obtain ⟨hx, hs, hnow, hend, hh, v, hf, hr⟩ := h
  rw [Machine.rxAdvance_body hx hr]
  refine ⟨⟨rfl, hs, hnow, hend, ?_, rfl⟩, (List.append_nil _).symm, rfl, rfl⟩
  simp [bodyAnswered, hf, hh, received]

theorem AttemptAt.rxAdvance_checks (hv : validFrame f) (h : AttemptAt s f line 2 t) :
    AttemptAt s f line 3 (rxAdvance t) ∧ AttemptWalks s (recordOfFrame f) 2 1 t (rxAdvance t) := by
  obtain ⟨hx, hs, hnow, hend, hf, hline⟩ := h
  rw [rxAdvance_reads_clock hx hs (hf ▸ hv), hnow]
  exact ⟨⟨hx, rfl, hend, hf, hline⟩, by simp [attemptOutputs, hnow], rfl, rfl⟩

theorem AttemptAt.rxAdvance_commit (h : AttemptAt s f line 3 t) :
    AttemptAt s f line 4 (rxAdvance t) ∧ AttemptWalks s (recordOfFrame f) 3 1 t (rxAdvance t) := by
  obtain ⟨hx, hs, hend, rfl, hline⟩ := h
  rw [rxAdvance_commits hx hs]
  exact ⟨⟨hx, rfl, hend, rfl, hline⟩, (List.append_nil _).symm, rfl, rfl⟩

theorem AttemptAt.rxAdvance_delivery (h : AttemptAt s f line 4 t) :
    AttemptAt s f line 5 (rxAdvance t) ∧ AttemptWalks s (recordOfFrame f) 4 1 t (rxAdvance t) := by
  obtain ⟨hx, hs, hend, rfl, hline⟩ := h
  obtain ⟨hcons, -, hpoll⟩ := id hend
  cases hc : s.consumerEn with
  | false =>
    rw [rxAdvance_ends_without_consumer hx hs (hcons.trans hc)]
    exact ⟨⟨hline, by simp [hc]⟩, by simp [attemptOutputs, resultOutputs, hc, hpoll], rfl, rfl⟩
  | true =>
    rw [rxAdvance_delivers_record hx hs (hcons.trans hc)]
    exact ⟨⟨hline, by rw [if_pos hc]; exact ⟨hx, rfl, hend⟩⟩, by simp [attemptOutputs, hc], rfl, rfl⟩

theorem AttemptAt.rxAdvance_return (hret : s.consumerEn = true → s.env.consumerReturns ≠ 0) (h : AttemptAt s f line 5 t) :
    AttemptAt s f line 6 (rxAdvance t) ∧ AttemptWalks s (recordOfFrame f) 5 1 t (rxAdvance t) := by
  obtain ⟨hline, hends⟩ := h
  cases hc : s.consumerEn with
  | false =>
    have hidle : t.rxState = .idle := by simpa [hc] using hends
    rw [rxAdvance_idle hidle]
    exact ⟨⟨hline, hidle⟩, by simp [attemptOutputs, hc], rfl, rfl⟩
  | true =>
    rw [if_pos hc] at hends
    obtain ⟨hx, hs, -, hreturns, hpoll⟩ := hends
    obtain ⟨n, hn⟩ := Nat.exists_eq_succ_of_ne_zero (hret hc)
    rw [rxAdvance_consumer_returns hx hs (hreturns.trans hn)]
    exact ⟨⟨hline, rfl⟩, by simp [attemptOutputs, resultOutputs, hc, hpoll], rfl, rfl⟩

/-- Each of the six transitions of an attempt that takes a valid frame (log 12). -/
theorem AttemptAt.rxAdvance {j : Nat} (hj : j < 6) (hv : validFrame f)
    (hret : j = 5 → s.consumerEn = true → s.env.consumerReturns ≠ 0) (h : AttemptAt s f line j t) :
    AttemptAt s f line (j + 1) (rxAdvance t) ∧ AttemptWalks s (recordOfFrame f) j 1 t (rxAdvance t) := by
  match j, hj with
  | 0, _ => exact h.rxAdvance_header
  | 1, _ => exact h.rxAdvance_body
  | 2, _ => exact h.rxAdvance_checks hv
  | 3, _ => exact h.rxAdvance_commit
  | 4, _ => exact h.rxAdvance_delivery
  | 5, _ => exact h.rxAdvance_return (hret rfl)

/-! ### Runs -/

/-- `n` steps lead from `t` to `u`, whatever follows. -/
def RunsTo (n : Nat) (t u : State) : Prop :=
  ∀ m, Host.Core.run Sys2Proof.core (n + m) t = Host.Core.run Sys2Proof.core m u

theorem RunsTo.refl (t : State) : RunsTo 0 t t := fun m => by rw [Nat.zero_add]

theorem RunsTo.trans {m n : Nat} {u w : State} (h : RunsTo m t u) (h' : RunsTo n u w) : RunsTo (m + n) t w :=
  fun k => by rw [Nat.add_assoc, h, h']

theorem runsTo_of_step {u : State} (h : step t = .next u) : RunsTo 1 t u :=
  fun m => by rw [Nat.add_comm, run_succ h]

theorem RunsTo.run {n : Nat} {u : State} (h : RunsTo n t u) : Host.Core.run Sys2Proof.core n t = .next u := h 0

/-- The next transitions of the attempt, each at its own input. -/
theorem AttemptAt.walks {n j : Nat} (hn : j + n ≤ 6) (hv : validFrame f)
    (hret : j + n = 6 → s.consumerEn = true → s.env.consumerReturns ≠ 0) {rest : List Input}
    (h : AttemptAt s f line j t) (hin : t.env.inputs = List.replicate n .receiverProceeds ++ rest) :
    ∃ u, RunsTo n t u ∧ AttemptAt s f line (j + n) u ∧ AttemptWalks s (recordOfFrame f) j n t u ∧
      u.env.inputs = rest := by
  induction n generalizing j t with
  | zero => exact ⟨t, .refl t, h, .refl s _ j t, hin⟩
  | succ n ih =>
    rw [List.replicate_succ, List.cons_append] at hin
    have hnext := h.with_accounts t.stats t.expectedSeq t.outputs (List.replicate n .receiverProceeds ++ rest)
    obtain ⟨hat, hwalk⟩ := hnext.rxAdvance (by omega) hv (fun hj => hret (by omega))
    obtain ⟨-, -, -, -, -, -, hinputs, -⟩ :=
      rxAdvance_frame (t.setInputs (List.replicate n .receiverProceeds ++ rest))
    obtain ⟨u, hrun, hat', hwalk', hrest⟩ := ih (j := j + 1) (by omega) (fun hj => hret (by omega)) hat hinputs
    rw [Nat.add_assoc, Nat.add_comm 1 n] at hat'
    refine ⟨u, ?_, hat', ?_, hrest⟩
    · exact Nat.add_comm n 1 ▸ (runsTo_of_step (step_receiverProceeds hin)).trans hrun
    · exact Nat.add_comm n 1 ▸ AttemptWalks.trans hwalk hwalk'

/-- Up to the delivery nothing is asked of the consumer. -/
theorem AttemptAt.walks_before_return {n j : Nat} (hn : j + n ≤ 5) (hv : validFrame f) {rest : List Input}
    (h : AttemptAt s f line j t) (hin : t.env.inputs = List.replicate n .receiverProceeds ++ rest) :
    ∃ u, RunsTo n t u ∧ AttemptAt s f line (j + n) u ∧ AttemptWalks s (recordOfFrame f) j n t u ∧
      u.env.inputs = rest :=
  h.walks (by omega) hv (fun hlast => by omega) hin

/-- The first `k` transitions, with the commit among them if there are more than three. -/
theorem AttemptAt.walks_from_start {k : Nat} (hk : k ≤ 6) (hv : validFrame f)
    (hret : s.consumerEn = true → s.env.consumerReturns ≠ 0) {rest : List Input} (h : AttemptAt s f line 0 t)
    (hin : t.env.inputs = List.replicate k .receiverProceeds ++ rest) :
    ∃ u, RunsTo k t u ∧ AttemptAt s f line k u ∧ u.env.inputs = rest ∧
      u.stats = (if k ≤ 3 then t.stats else countedOn s (recordOfFrame f) t.stats t.expectedSeq) ∧
      u.expectedSeq = (if k ≤ 3 then t.expectedSeq else (recordOfFrame f).sequence + 1) ∧
      u.outputs = t.outputs ++ ((attemptOutputs s (recordOfFrame f)).take k).flatten := by
  obtain ⟨u, hrun, hat, ⟨hout, hstats, hcursor⟩, hrest⟩ := h.walks (n := k) (by omega) hv (fun _ => hret) hin
  have hcommit : (0 ≤ 3 ∧ 3 < 0 + k) ↔ ¬ k ≤ 3 := by omega
  simp only [hcommit, ite_not] at hstats hcursor
  exact ⟨u, hrun, Nat.zero_add k ▸ hat, hrest, hstats, hcursor, hout⟩

/-- The transitions behind the `k`-th to the end of the attempt, with the commit among them if `k` is at most three. -/
theorem AttemptAt.walks_to_end {k : Nat} (hk : k ≤ 6) (hv : validFrame f)
    (hret : s.consumerEn = true → s.env.consumerReturns ≠ 0) {rest : List Input} (h : AttemptAt s f line k t)
    (hin : t.env.inputs = List.replicate (6 - k) .receiverProceeds ++ rest) :
    ∃ u, RunsTo (6 - k) t u ∧ u.rxState = .idle ∧ u.env.inputs = rest ∧ u.env.rxLine = line ∧
      u.stats = (if k ≤ 3 then countedOn s (recordOfFrame f) t.stats t.expectedSeq else t.stats) ∧
      u.expectedSeq = (if k ≤ 3 then (recordOfFrame f).sequence + 1 else t.expectedSeq) ∧
      u.outputs = t.outputs ++ ((attemptOutputs s (recordOfFrame f)).drop k).flatten := by
  have hlast : k + (6 - k) = 6 := by omega
  obtain ⟨u, hrun, hat, ⟨hout, hstats, hcursor⟩, hrest⟩ := h.walks (n := 6 - k) (by omega) hv (fun _ => hret) hin
  obtain ⟨hline, hidle⟩ : AttemptAt s f line 6 u := hlast ▸ hat
  have hcommit : (k ≤ 3 ∧ 3 < k + (6 - k)) ↔ k ≤ 3 := by omega
  simp only [hcommit] at hstats hcursor
  rw [List.take_of_length_le (by simp [attemptOutputs])] at hout
  exact ⟨u, hrun, hidle, hrest, hline, hstats, hcursor, hout⟩

/-- A `GET_STATS` leaves the attempt where it stands and shows the statistics as they are. -/
theorem AttemptAt.getStats {j : Nat} (h : AttemptAt s f line j t) {p : Ports} {rest : List Input}
    (hin : t.env.inputs = .present (.command 0x08#8 p) :: rest) :
    ∃ u, RunsTo 1 t u ∧ AttemptAt s f line j u ∧ u.stats = t.stats ∧ u.expectedSeq = t.expectedSeq ∧
      u.outputs = t.outputs ++ [.result (.getStats t.stats)] ∧ u.env.inputs = rest :=
  ⟨_, runsTo_of_step (step_present hin (decode_command_eight p)), h.with_accounts _ _ _ _, rfl, rfl, rfl, rfl⟩

/-- A `RESET_STATS` leaves the attempt where it stands and zeroes the accounts. -/
theorem AttemptAt.resetStats {j : Nat} (h : AttemptAt s f line j t) {p : Ports} {rest : List Input}
    (hin : t.env.inputs = .present (.command 0x09#8 p) :: rest) :
    ∃ u, RunsTo 1 t u ∧ AttemptAt s f line j u ∧ u.stats = LinkStats.zero ∧ u.expectedSeq = 0 ∧
      u.outputs = t.outputs ∧ u.env.inputs = rest :=
  ⟨_, runsTo_of_step (step_present hin (decode_command_nine p)), h.with_accounts _ _ _ _, rfl, rfl, rfl, rfl⟩

end Sys2Proof.Machine

namespace Sys2Proof.Proofs

open Sys2Proof.Machine

/-- Settles O40: the reset leaves the attempt in its body wait (`AttemptAt.resetStats`), and its four transitions count on the
zeroed registers (`AttemptAt.walks`). -/
theorem resetStatsDuringAttempt : Obligations.ResetStatsDuringAttempt := by
  intro s v p line rest hx hh hs hcons hr hf hc hin
  have hv : validFrame (received v) := (validFrame_received_iff v).mpr ⟨hf, hc.symm⟩
  have hat : AttemptAt s (received v) line 1 s := ⟨hx, hs, rfl, ⟨rfl, rfl, rfl⟩, hh, v, rfl, hr⟩
  obtain ⟨t, hrun, hat, hstats, hcursor, -, hin⟩ := hat.resetStats hin
  obtain ⟨u, hrun', ⟨hline, hends⟩, ⟨-, hstats', hcursor'⟩, hin'⟩ := hat.walks_before_return (n := 4) (by decide) hv hin
  have hseq : (recordOfFrame (received v)).sequence = v[44] := received_getElem_succ v (k := 44) (by decide)
  rw [if_pos (by decide), hstats, hcursor] at hstats'
  rw [if_pos (by decide), hseq] at hcursor'
  refine ⟨u, (hrun.trans hrun').run, by simpa [hcons] using hends, ?_, ?_, ?_, ?_, hcursor', hin'⟩ <;>
    rw [hstats'] <;> simp [countedOn, LinkStats.zero, lossOf_eq, hseq]

/-- Settles O56: the three transitions from the checks to step 9, with the operations between them. -/
theorem operationsFallBetweenSteps : Obligations.OperationsFallBetweenSteps := by
  intro s r p rest hx hs hd
  obtain ⟨hv, rfl⟩ := (decodeFrame_eq_ok_iff _ _).mp hd
  have hat : AttemptAt s s.rxbuf s.env.rxLine 2 s := ⟨hx, hs, rfl, ⟨rfl, rfl, rfl⟩, rfl, rfl⟩
  intro getStats resetStats counted ending
  refine ⟨fun hin => ?_, fun hin => ?_, fun hin => ?_⟩
  · obtain ⟨t1, hr1, hat, ⟨ho1, hs1, hc1⟩, hin⟩ := hat.walks_before_return (n := 1) (by decide) hv hin
    obtain ⟨t2, hr2, hat, hs2, hc2, ho2, hin⟩ := hat.getStats hin
    obtain ⟨t3, hr3, hat, ⟨ho3, hs3, hc3⟩, hin⟩ := hat.walks_before_return (n := 1) (by decide) hv hin
    obtain ⟨t4, hr4, hat, hs4, hc4, ho4, hin⟩ := hat.getStats hin
    obtain ⟨t5, hr5, hat, ⟨ho5, hs5, hc5⟩, hin⟩ := hat.walks_before_return (n := 1) (by decide) hv hin
    refine ⟨t5, ((((hr1.trans hr2).trans hr3).trans hr4).trans hr5).run, ?_, ?_, hin, ?_⟩
    · simp [hs5, hs4, hs3, hs2, hs1, hc2, hc1, counted, countedOn]
    · simp [hc5, hc4, hc3]
    · simp [ho5, ho4, ho3, ho2, ho1, hs3, hs2, hs1, hc2, hc1, attemptOutputs, resultOutputs, ending, counted,
        countedOn]
  · obtain ⟨t1, hr1, hat, ⟨ho1, hs1, hc1⟩, hin⟩ := hat.walks_before_return (n := 1) (by decide) hv hin
    obtain ⟨t2, hr2, hat, hs2, hc2, ho2, hin⟩ := hat.resetStats hin
    obtain ⟨t3, hr3, hat, ⟨ho3, hs3, hc3⟩, hin⟩ := hat.walks_before_return (n := 2) (by decide) hv hin
    refine ⟨t3, ((hr1.trans hr2).trans hr3).run, ?_, ?_, hin, ?_⟩
    · simp [hs3, hs2, hc2, counted, countedOn, LinkStats.zero]
    · simp [hc3]
    · simp [ho3, ho2, ho1, attemptOutputs, resultOutputs, ending]
  · obtain ⟨t1, hr1, hat, ⟨ho1, -, -⟩, hin⟩ := hat.walks_before_return (n := 2) (by decide) hv hin
    obtain ⟨t2, hr2, hat, hs2, hc2, ho2, hin⟩ := hat.resetStats hin
    obtain ⟨t3, hr3, hat, ⟨ho3, hs3, hc3⟩, hin⟩ := hat.walks_before_return (n := 1) (by decide) hv hin
    refine ⟨t3, ((hr1.trans hr2).trans hr3).run, ?_, ?_, hin, ?_⟩
    · simp [hs3, hs2, LinkStats.zero]
    · simp [hc3, hc2]
    · simp [ho3, ho2, ho1, attemptOutputs, resultOutputs, ending]

/-- Settles O57: six transitions with the operation behind the first `k` (`AttemptAt.walks`), which counts if the fourth is
still ahead. -/
theorem operationsFallAnywhereInAttempt : Obligations.OperationsFallAnywhereInAttempt := by
  intro s f r line p rest k hx hs hret hd hline hk placed counted result handedOut
  obtain ⟨hv, rfl⟩ := (decodeFrame_eq_ok_iff _ _).mp hd
  obtain ⟨v, rfl⟩ := exists_eq_received hv.1
  have hat (cmd : Byte) : AttemptAt s (received v) line 0 (placed cmd) :=
    ⟨hx, hs, rfl, ⟨rfl, rfl, rfl⟩, _, _, hline ▸ chanRead_header_received v line, rfl, v, rfl, chanRead_bytes v line⟩
  have hsteps : k + (1 + (6 - k)) = 7 := by omega
  constructor
  · obtain ⟨t1, hr1, hat, hin, hs1, hc1, ho1⟩ := (hat 0x08#8).walks_from_start hk hv hret rfl
    obtain ⟨t2, hr2, hat, hs2, hc2, ho2, hin⟩ := hat.getStats hin
    obtain ⟨t3, hr3, hidle, hin, hline, hs3, hc3, ho3⟩ := hat.walks_to_end hk hv hret hin
    refine ⟨t3, hsteps ▸ (hr1.trans (hr2.trans hr3)).run, hidle, hin, hline, ?_, ?_, ?_⟩
    · rw [hs3, hs2, hc2, hs1, hc1]
      by_cases hbefore : k ≤ 3 <;> simp only [hbefore, ↓reduceIte] <;> rfl
    · rw [hc3, hc2, hc1]
      by_cases hbefore : k ≤ 3 <;> simp only [hbefore, ↓reduceIte]
    · rw [ho3, ho2, ho1, hs1]
      rfl
  · obtain ⟨t1, hr1, hat, hin, -, -, ho1⟩ := (hat 0x09#8).walks_from_start hk hv hret rfl
    obtain ⟨t2, hr2, hat, hs2, hc2, ho2, hin⟩ := hat.resetStats hin
    obtain ⟨t3, hr3, hidle, hin, hline, hs3, hc3, ho3⟩ := hat.walks_to_end hk hv hret hin
    refine ⟨t3, hsteps ▸ (hr1.trans (hr2.trans hr3)).run, hidle, hin, hline, ?_, ?_, ?_⟩
    · rw [hs3, hs2, hc2]
      rfl
    · rw [hc3, hc2]
    · rw [ho3, ho2, ho1, List.append_assoc, ← List.flatten_append, List.take_append_drop]
      rfl

end Sys2Proof.Proofs

/-! PROOFS. The statistics change only by one of the indivisible transitions (20_memory R62 (a), 43_receiver R152). -/

namespace Sys2Proof.Machine

variable {s t : State}

/-! ### What a transition counts -/

/-- From `s` to `t` no frame is counted: nothing changed, or one timeout or one CRC error was added. -/
def NoFrameCounted (s t : State) : Prop :=
  (t.stats = s.stats ∧ t.expectedSeq = s.expectedSeq) ∨
  (t.stats = { s.stats with timeouts := s.stats.timeouts + 1 } ∧ t.expectedSeq = s.expectedSeq) ∨
  (t.stats = { s.stats with crcErrors := s.stats.crcErrors + 1 } ∧ t.expectedSeq = s.expectedSeq)

/-- From `s` to `t` the frame `f` is counted, with the clock answer `now`. -/
def FrameCounted (f : Vector Byte 48) (now : U32) (s t : State) : Prop :=
  t.stats = (commit (recordOfFrame f) now s).stats ∧ t.expectedSeq = (recordOfFrame f).sequence + 1

theorem noFrameCounted_of_kept (h : t.stats = s.stats) (h' : t.expectedSeq = s.expectedSeq) : NoFrameCounted s t :=
  .inl ⟨h, h'⟩

/-- An event counts a timeout, a CRC error or nothing (60_exceptions R190, R193). -/
theorem noFrameCounted_of_event {e : Event} (h : t.stats = countEvent e s.stats) (h' : t.expectedSeq = s.expectedSeq) :
    NoFrameCounted s t := by
  cases e with
  | timeout => exact .inr (.inl ⟨h, h'⟩)
  | checksumMismatch => exact .inr (.inr ⟨h, h'⟩)
  | channelUnconfigured | invalidInput | linkFault | frameSyncFailure => exact .inl ⟨h, h'⟩

theorem noFrameCounted_absorb (s : State) (e : Event) : NoFrameCounted s (s.absorb e) :=
  noFrameCounted_of_event (e := e) rfl rfl

theorem headerAnswered_noFrameCounted (a : ReadAnswer 1) (s : State) : NoFrameCounted s (headerAnswered a s) := by
  rcases headerAnswered_cases a s with ⟨-, h⟩ | ⟨-, h⟩ | ⟨-, -, -, h⟩ | ⟨-, -, -, h⟩ <;> rw [h]
  · exact noFrameCounted_absorb s _
  · exact noFrameCounted_absorb s _
  · exact noFrameCounted_absorb s _
  · exact noFrameCounted_of_kept rfl rfl

theorem bodyAnswered_noFrameCounted (a : ReadAnswer 47) (s : State) : NoFrameCounted s (bodyAnswered a s) := by
  rcases bodyAnswered_cases a s with ⟨-, h⟩ | ⟨-, h⟩ | ⟨v, -, h⟩ <;> rw [h]
  · exact noFrameCounted_absorb s _
  · exact noFrameCounted_absorb s _
  · exact noFrameCounted_of_kept rfl rfl

theorem validate_noFrameCounted (s : State) : NoFrameCounted s (validate s) := by
  rcases validate_cases s with ⟨_, h⟩ | ⟨-, h⟩ | ⟨-, h⟩ <;> rw [h]
  · exact noFrameCounted_absorb s _
  · exact noFrameCounted_absorb s _
  · exact noFrameCounted_of_kept rfl rfl

/-- A transition of the RX unit counts a frame only as the commit of the one in the buffer (R152). -/
theorem rxAdvance_counts (s : State) :
    NoFrameCounted s (rxAdvance s) ∨ ∃ now, s.stage = .timed now ∧ FrameCounted s.rxbuf now s (rxAdvance s) := by
  rcases rxAdvance_cases s with h | ⟨-, a, line, -, h⟩ | ⟨-, a, line, -, h⟩ | ⟨-, -, h⟩ | ⟨-, now, hs, h⟩ | ⟨-, -, h⟩ |
    ⟨-, -, k, -, h⟩ <;> rw [h]
  · exact .inl (noFrameCounted_of_kept rfl rfl)
  · exact .inl (headerAnswered_noFrameCounted a (s.setLine line))
  · exact .inl (bodyAnswered_noFrameCounted a (s.setLine line))
  · exact .inl (validate_noFrameCounted s)
  · exact .inr ⟨now, hs, rfl, rfl⟩
  · rcases deliverOrEnd_cases s with ⟨-, hd⟩ | ⟨-, hd⟩ <;> rw [hd] <;> exact .inl (noFrameCounted_of_kept rfl rfl)
  · exact .inl (noFrameCounted_of_kept rfl rfl)

/-! ### What a whole attempt counts -/

/-- A buffer that is no valid frame is rejected, with an event that its bytes alone decide (R146, R147). -/
theorem rxAdvance_rejects {f : Vector Byte 48} (hh : f[0] = Config.headerByte) (hv : ¬ validFrame f) :
    ∃ e, ∀ u : State, u.rxState = .validating → u.stage = .checking → u.rxbuf = f → rxAdvance u = u.absorb e := by
  by_cases hf : f[47] = Config.footerByte
  · have hc : crc8 (bodyOf f) ≠ f[46] := fun hc => hv ⟨hh, hf, hc.symm⟩
    refine ⟨.checksumMismatch, fun u hx hs hb => ?_⟩
    subst hb
    exact rxAdvance_wrong_crc hx hs hh hf hc
  · refine ⟨.frameSyncFailure .footer, fun u hx hs hb => ?_⟩
    subst hb
    exact rxAdvance_wrong_footer hx hs hf

/-- The frame `f` is what the two reads of an attempt take from the line of `s` (R143 to R145). -/
def ReadFromLine (s : State) (f : Vector Byte 48) : Prop :=
  ∃ (h : Vector Byte 1) (v : Vector Byte 47) (line line' : List LineItem),
    chanRead 1 s.env.rxLine = some (.bytes h, line) ∧ h[0] = Config.headerByte ∧
    chanRead 47 line = some (.bytes v, line') ∧ f = received v

theorem noFrameCounted_of_next {i : Instr} {u : State} (hexec : exec i s = .next t) (h : exec i s = .next u)
    (hu : NoFrameCounted s u) : NoFrameCounted s t := by
  obtain rfl : u = t := by simpa [h] using hexec
  exact hu

/-- The frame `f` is counted in this step: taken off the line, with a clock read of its own (R143 to R152). -/
def FrameTaken (f : Vector Byte 48) (s t : State) : Prop :=
  validFrame f ∧ ReadFromLine s f ∧ FrameCounted f s.nowAnswer s t ∧ .now s.nowAnswer ∈ t.outputs.drop s.outputs.length

section

variable {i : Instr} {timeoutMs : U32} (hi : attemptBudget i = some timeoutMs) (hidle : s.rxState = .idle)
  (hconf : s.configured = true) (hexec : exec i s = .next t)

include hi hidle hconf hexec

/-- An attempt that reads a valid frame counts it, whatever becomes of the delivery. -/
theorem frameTaken_of_valid {h : Vector Byte 1} {v : Vector Byte 47} {line line' : List LineItem}
    (hr : chanRead 1 s.env.rxLine = some (.bytes h, line)) (hh : h[0] = Config.headerByte)
    (hr' : chanRead 47 line = some (.bytes v, line')) (hv : validFrame (received v)) : FrameTaken (received v) s t := by
  refine ⟨hv, ⟨h, v, line, line', hr, hh, hr', rfl⟩, ?_⟩
  cases hc : s.consumerEn with
  | false =>
    rw [exec_attempt_accepts_without_consumer hi hidle hconf hr hh hr' hv hc] at hexec
    cases hexec
    exact ⟨⟨rfl, rfl⟩, by simp [attemptCommitted]⟩
  | true =>
    cases hn : s.env.consumerReturns with
    | zero =>
      rw [exec_attempt_accepts_waiting_for_consumer hi hidle hconf hr hh hr' hv hc hn] at hexec
      cases hexec
      exact ⟨⟨rfl, rfl⟩, by simp [attemptDelivering, attemptCommitted]⟩
    | succ n =>
      rw [exec_attempt_accepts_with_consumer hi hidle hconf hr hh hr' hv hc hn] at hexec
      cases hexec
      exact ⟨⟨rfl, rfl⟩, by simp [attemptDelivering, attemptCommitted]⟩

/-- Once both reads are answered the checks decide. -/
theorem attempt_counts_of_reads {h : Vector Byte 1} {v : Vector Byte 47} {line line' : List LineItem}
    (hr : chanRead 1 s.env.rxLine = some (.bytes h, line)) (hh : h[0] = Config.headerByte)
    (hr' : chanRead 47 line = some (.bytes v, line')) : NoFrameCounted s t ∨ ∃ f, FrameTaken f s t := by
  by_cases hv : validFrame (received v)
  · exact .inr ⟨_, frameTaken_of_valid hi hidle hconf hexec hr hh hr' hv⟩
  · obtain ⟨e, he⟩ := rxAdvance_rejects (received_getElem_zero v) hv
    have hfails := exec_attempt_fails_in_checks hi hidle hconf hr hh hr' he
    exact .inl (noFrameCounted_of_next hexec hfails (noFrameCounted_of_event (e := e) rfl rfl))

/-- Once the header is there the body read decides. -/
theorem attempt_counts_of_header {h : Vector Byte 1} {line : List LineItem}
    (hr : chanRead 1 s.env.rxLine = some (.bytes h, line)) (hh : h[0] = Config.headerByte) :
    NoFrameCounted s t ∨ ∃ f, FrameTaken f s t := by
  match hr' : chanRead 47 line with
  | none =>
    have hwaits := exec_attempt_of_fixed hi hidle hconf 1 (by decide) (rxAdvance_underWay_header hr hh)
      (rxAdvance_body_waits (s := underWay i .awaitingFooter _ line _ s) rfl hr')
    exact .inl (noFrameCounted_of_next hexec hwaits (noFrameCounted_of_kept rfl rfl))
  | some (.timeout, line') =>
    have hfails := exec_attempt_fails_in_body hi hidle hconf hr hh hr' (e := .timeout) (fun _ => rfl)
    exact .inl (noFrameCounted_of_next hexec hfails (noFrameCounted_of_event (e := .timeout) rfl rfl))
  | some (.fault, line') =>
    have hfails := exec_attempt_fails_in_body hi hidle hconf hr hh hr' (e := .linkFault) (fun _ => rfl)
    exact .inl (noFrameCounted_of_next hexec hfails (noFrameCounted_of_kept rfl rfl))
  | some (.bytes v, line') => exact attempt_counts_of_reads hi hidle hconf hexec hr hh hr'

/-- What an attempt issued from Idle with a channel counts. -/
theorem attempt_counts_of_configured : NoFrameCounted s t ∨ ∃ f, FrameTaken f s t := by
  match hr : chanRead 1 s.env.rxLine with
  | none =>
    have hwaits := exec_attempt_of_fixed hi hidle hconf 0 (by decide) rfl
      (rxAdvance_header_waits (s := underWay i .awaitingHeader _ s.env.rxLine _ s) rfl hr)
    exact .inl (noFrameCounted_of_next hexec hwaits (noFrameCounted_of_kept rfl rfl))
  | some (.timeout, line) =>
    have hfails := exec_attempt_fails_in_header hi hidle hconf hr (e := .timeout) (fun _ => rfl)
    exact .inl (noFrameCounted_of_next hexec hfails (noFrameCounted_of_event (e := .timeout) rfl rfl))
  | some (.fault, line) =>
    have hfails := exec_attempt_fails_in_header hi hidle hconf hr (e := .linkFault) (fun _ => rfl)
    exact .inl (noFrameCounted_of_next hexec hfails (noFrameCounted_of_kept rfl rfl))
  | some (.bytes h, line) =>
    by_cases hh : h[0] = Config.headerByte
    · exact attempt_counts_of_header hi hidle hconf hexec hr hh
    · have hfails := exec_attempt_fails_in_header hi hidle hconf hr (fun _ => if_pos hh)
      exact .inl (noFrameCounted_of_next hexec hfails (noFrameCounted_of_kept rfl rfl))

end

/-- What an attempt counts in the step that issues it. -/
theorem attempt_counts {i : Instr} {timeoutMs : U32} (hi : attemptBudget i = some timeoutMs) (hexec : exec i s = .next t) :
    NoFrameCounted s t ∨ ∃ f, FrameTaken f s t := by
  have hstart := exec_of_attemptBudget hi s
  rcases attempt_cases timeoutMs (decide (i = .poll)) s with ⟨-, h⟩ | ⟨-, -, h⟩ | ⟨hidle, hconf, -⟩
  · rw [hstart, h] at hexec
    cases hexec
  · rw [hstart, h] at hexec
    cases hexec
    exact .inl (noFrameCounted_of_kept rfl rfl)
  · exact attempt_counts_of_configured hi hidle hconf hexec

/-! ### What a step counts -/

/-- The five statistics and the cursor are at zero. -/
def AccountsZeroed (t : State) : Prop := t.stats = LinkStats.zero ∧ t.expectedSeq = 0

theorem noFrameCounted_of_receiverKept (h : ReceiverKept s t) : NoFrameCounted s t := by
  obtain ⟨hstats, hcursor, -, -⟩ := h
  exact noFrameCounted_of_kept hstats hcursor

/-- An instruction counts a frame only if it is an attempt, and zeroes the accounts only if it is `RESET_STATS`. -/
theorem exec_counts {i : Instr} (h : exec i s = .next t) :
    NoFrameCounted s t ∨ ((∃ timeoutMs, attemptBudget i = some timeoutMs) ∧ ∃ f, FrameTaken f s t) ∨
      (i = .resetStats ∧ AccountsZeroed t) := by
  cases hi : attemptBudget i with
  | some timeoutMs => exact (attempt_counts hi h).imp_right fun htaken => .inl ⟨⟨timeoutMs, rfl⟩, htaken⟩
  | none =>
    by_cases hreset : i = .resetStats
    · subst hreset
      rw [exec_resetStats] at h
      cases h
      exact .inr (.inr ⟨rfl, rfl, rfl⟩)
    · exact .inl (noFrameCounted_of_receiverKept (exec_receiverKept hi hreset h))

/-- What the TX unit does behind a transition of the RX unit counts nothing. -/
theorem txAdvance_counts (s : State) : (txAdvance s).stats = s.stats ∧ (txAdvance s).expectedSeq = s.expectedSeq := by
  obtain ⟨hstats, hcursor, -, -⟩ := txAdvance_receiverKept s
  exact ⟨hstats, hcursor⟩

/-- What a step counts: no frame, the one the attempt in progress has accepted, or the one that an attempt takes in this
step; or it zeroes the accounts. -/
theorem step_counts (h : step s = .next t) :
    NoFrameCounted s t ∨ (∃ now, s.stage = .timed now ∧ FrameCounted s.rxbuf now s t) ∨
      ((∃ i timeoutMs, s.runs = some i ∧ attemptBudget i = some timeoutMs) ∧ ∃ f, FrameTaken f s t) ∨
      ((s.isReset ∨ s.runs = some .resetStats) ∧ AccountsZeroed t) := by
  rcases step_cases h with ⟨-, rfl⟩ | ⟨i, hi, he⟩ | ⟨bytes, rest, -, -, rfl⟩ | ⟨rest, -, rfl⟩ | ⟨rest, -, rfl⟩ |
    ⟨rest, hin, rfl⟩ | ⟨-, -, -, env, rfl⟩
  · obtain ⟨hstats, hcursor⟩ := txAdvance_counts (rxAdvance s)
    simp only [NoFrameCounted, FrameCounted, hstats, hcursor]
    exact (rxAdvance_counts s).imp_right .inl
  · rcases exec_counts (s := s.setInputs s.env.inputs.tail) he with hnone | ⟨⟨timeoutMs, hb⟩, htaken⟩ | ⟨rfl, hzero⟩
    · exact .inl hnone
    · exact .inr (.inr (.inl ⟨⟨i, timeoutMs, hi, hb⟩, htaken⟩))
    · exact .inr (.inr (.inr ⟨.inr hi, hzero⟩))
  · exact .inl (noFrameCounted_of_kept rfl rfl)
  · exact (rxAdvance_counts (s.setInputs rest)).imp_right .inl
  · exact .inl (noFrameCounted_of_receiverKept (txAdvance_receiverKept (s.setInputs rest)))
  · exact .inr (.inr (.inr ⟨.inl (by simp [State.isReset, hin]), rfl, rfl⟩))
  · exact .inl (noFrameCounted_of_kept rfl rfl)

end Sys2Proof.Machine

namespace Sys2Proof.Proofs

open Sys2Proof.Machine

/-- Settles O54: a frame is counted by the transition that finds its clock answer kept, and then the invariant says that it is
the valid one in the buffer, or by the attempt that reads it in this step (`step_counts`). -/
theorem statisticsChangeAtomically : Obligations.StatisticsChangeAtomically := by
  intro s t hinv h
  rcases step_counts h with (hkept | htimeout | hcrc) | ⟨now, hs, hstats, hcursor⟩ |
    ⟨hruns, f, hv, hread, ⟨hstats, hcursor⟩, hnow⟩ | ⟨hcause, hzero⟩
  · exact .inl hkept
  · exact .inr (.inl htimeout)
  · exact .inr (.inr (.inl hcrc))
  · obtain ⟨-, hv⟩ := hinv.stage_accepted (by simp [hs])
    exact .inr (.inr (.inr (.inl ⟨s.rxbuf, _, now, (decodeFrame_eq_ok_iff _ _).mpr ⟨hv, rfl⟩, .inl ⟨hs, rfl⟩, hcursor,
      hstats⟩)))
  · exact .inr (.inr (.inr (.inl ⟨f, _, s.nowAnswer, (decodeFrame_eq_ok_iff _ _).mpr ⟨hv, rfl⟩,
      .inr ⟨hruns, rfl, hnow, hread⟩, hcursor, hstats⟩)))
  · exact .inr (.inr (.inr (.inr ⟨hcause, hzero⟩)))

end Sys2Proof.Proofs
